-- ==== Sys2Proof/Word.lean ====
section
/-! DEFINITION. The two word types of the machine: bytes and 16-bit words (R5, R9). Everything that takes
words apart or puts them together stands in Decode.lean and under Machine/. -/

namespace Sys2Proof

/-- An 8-bit byte, bits numbered 7 down to 0 (R9): the data width of the machine. -/
abbrev Byte := BitVec 8

/-- A 16-bit word, bits numbered 15 down to 0 (R9): the width of an address and of PC. -/
abbrev Word := BitVec 16

end Sys2Proof
end

