-- ==== Sys2Proof/Config.lean ====
section
/-! DEFINITION. The three parameters of R6 as types: the variant of the chip, the table of base cycles, and the Bus,
whose devices answer with a free value where nothing says what they answer; and the two conventions the model names
for what the spec leaves open at launch. -/

namespace Sys2Proof

/-- `VARIANT` (R1, R6, R46): the original NMOS 6502 or the CMOS WDC65C02. -/
inductive Variant where
  | nmos
  | wdc65c02
  deriving DecidableEq, Repr

/-- `BaseCycles` (R6, R131, D11): for each variant the base cycles of the 256 opcode bytes, in order. -/
structure CycleTable where
  nmos : List Nat
  wdc65c02 : List Nat
  deriving DecidableEq, Repr

/-- What stands behind a range of addresses (R80, R88): memory that keeps what is written, memory that a write does
not change, or a device, whose reads the platform answers as it likes. Log entry 2. -/
inductive RegionKind where
  | ram
  | rom
  | device
  deriving DecidableEq, Repr

/-- The addresses from `first` to `last`, both included. -/
structure Region where
  first : Word
  last : Word
  kind : RegionKind
  deriving DecidableEq, Repr

/-- A FREE VALUE: what a device answers to the core's read number `n` of a device (counted from 0 since construction),
at an address, where `State.answers` does not say it. What a read returns is the platform's (R80, D18). Log
entry 2. -/
opaque Config.deviceByte : Nat → Word → Byte

/-- What a byte of memory that nothing has written reads as. DESIGN CHOICE, log entry 3 (unsafe): the spec fixes
no contents; its test vectors (95_test_vectors.md section 0) start from a memory of zeros. -/
def Config.unlistedByte : Byte := 0x00#8

/-- The variant of `State.reset`. DESIGN CHOICE, log entry 1: the spec leaves `VARIANT` a parameter; WDC65C02 is
the variant in which all 256 opcode bytes are instructions. -/
def Config.resetVariant : Variant := .wdc65c02

end Sys2Proof
end

