-- ==== Sys2Proof/Syntax.lean ====
section
/-! DEFINITION. The instructions: one constructor per row of spec/opcode_table.json, that is, one per opcode byte
(R120, R123, R126, R128, R129), 256 in all, in the order of the family files (reserved NOPs with operands before WAI, STP and
the one-byte ones: Lean numbers at most 244 constructors that carry fields). A constructor carries the operand
bytes of its format (R120, R122): nothing for F1, one byte for F2, the 16-bit operand for F3 (`{byte2, byte1}`),
the zero-page byte and the signed offset for F3ZR. The suffix names the addressing mode: Imm, Zp, ZpX, ZpY, Abs,
AbsX, AbsY, Ind, IndX `($nn,X)`, IndY `($nn),Y`, ZpInd `($nn)`, AbsIndX `($nnnn,X)`, A the accumulator. -/

namespace Sys2Proof

/-- The instruction set of both variants. A constructor `nopXX` is the reserved WDC65C02 opcode XX (R129, R394). -/
inductive Instr where
  /-- LDA ($nn,X), opcode A1, rules R201 and R172. -/
  | ldaIndX (o : Byte)
  /-- LDA $nn, opcode A5, rules R201 and R165. -/
  | ldaZp (o : Byte)
  /-- LDA #$nn, opcode A9, rules R201 and R163. -/
  | ldaImm (v : Byte)
  /-- LDA $nnnn, opcode AD, rules R201 and R168. -/
  | ldaAbs (w : Word)
  /-- LDA ($nn),Y, opcode B1, rules R201 and R173. -/
  | ldaIndY (o : Byte)
  /-- LDA ($nn), opcode B2, rules R201 and R174, WDC65C02 only. -/
  | ldaZpInd (o : Byte)
  /-- LDA $nn,X, opcode B5, rules R201 and R166. -/
  | ldaZpX (o : Byte)
  /-- LDA $nnnn,Y, opcode B9, rules R201 and R170. -/
  | ldaAbsY (w : Word)
  /-- LDA $nnnn,X, opcode BD, rules R201 and R169. -/
  | ldaAbsX (w : Word)
  /-- LDX #$nn, opcode A2, rules R202 and R163. -/
  | ldxImm (v : Byte)
  /-- LDX $nn, opcode A6, rules R202 and R165. -/
  | ldxZp (o : Byte)
  /-- LDX $nnnn, opcode AE, rules R202 and R168. -/
  | ldxAbs (w : Word)
  /-- LDX $nn,Y, opcode B6, rules R202 and R167. -/
  | ldxZpY (o : Byte)
  /-- LDX $nnnn,Y, opcode BE, rules R202 and R170. -/
  | ldxAbsY (w : Word)
  /-- LDY #$nn, opcode A0, rules R203 and R163. -/
  | ldyImm (v : Byte)
  /-- LDY $nn, opcode A4, rules R203 and R165. -/
  | ldyZp (o : Byte)
  /-- LDY $nnnn, opcode AC, rules R203 and R168. -/
  | ldyAbs (w : Word)
  /-- LDY $nn,X, opcode B4, rules R203 and R166. -/
  | ldyZpX (o : Byte)
  /-- LDY $nnnn,X, opcode BC, rules R203 and R169. -/
  | ldyAbsX (w : Word)
  /-- STA ($nn,X), opcode 81, rules R204 and R172. -/
  | staIndX (o : Byte)
  /-- STA $nn, opcode 85, rules R204 and R165. -/
  | staZp (o : Byte)
  /-- STA $nnnn, opcode 8D, rules R204 and R168. -/
  | staAbs (w : Word)
  /-- STA ($nn),Y, opcode 91, rules R204 and R173. -/
  | staIndY (o : Byte)
  /-- STA ($nn), opcode 92, rules R204 and R174, WDC65C02 only. -/
  | staZpInd (o : Byte)
  /-- STA $nn,X, opcode 95, rules R204 and R166. -/
  | staZpX (o : Byte)
  /-- STA $nnnn,Y, opcode 99, rules R204 and R170. -/
  | staAbsY (w : Word)
  /-- STA $nnnn,X, opcode 9D, rules R204 and R169. -/
  | staAbsX (w : Word)
  /-- STX $nn, opcode 86, rules R205 and R165. -/
  | stxZp (o : Byte)
  /-- STX $nnnn, opcode 8E, rules R205 and R168. -/
  | stxAbs (w : Word)
  /-- STX $nn,Y, opcode 96, rules R205 and R167. -/
  | stxZpY (o : Byte)
  /-- STY $nn, opcode 84, rules R206 and R165. -/
  | styZp (o : Byte)
  /-- STY $nnnn, opcode 8C, rules R206 and R168. -/
  | styAbs (w : Word)
  /-- STY $nn,X, opcode 94, rules R206 and R166. -/
  | styZpX (o : Byte)
  /-- STZ $nn, opcode 64, rules R207 and R165, WDC65C02 only. -/
  | stzZp (o : Byte)
  /-- STZ $nn,X, opcode 74, rules R207 and R166, WDC65C02 only. -/
  | stzZpX (o : Byte)
  /-- STZ $nnnn, opcode 9C, rules R207 and R168, WDC65C02 only. -/
  | stzAbs (w : Word)
  /-- STZ $nnnn,X, opcode 9E, rules R207 and R169, WDC65C02 only. -/
  | stzAbsX (w : Word)
  /-- TAX, opcode AA, rules R220 and R161. -/
  | tax
  /-- TAY, opcode A8, rules R221 and R161. -/
  | tay
  /-- TXA, opcode 8A, rules R222 and R161. -/
  | txa
  /-- TYA, opcode 98, rules R223 and R161. -/
  | tya
  /-- TSX, opcode BA, rules R224 and R161. -/
  | tsx
  /-- TXS, opcode 9A, rules R225 and R161. -/
  | txs
  /-- PHA, opcode 48, rules R230 and R161. -/
  | pha
  /-- PHX, opcode DA, rules R231 and R161, WDC65C02 only. -/
  | phx
  /-- PHY, opcode 5A, rules R232 and R161, WDC65C02 only. -/
  | phy
  /-- PHP, opcode 08, rules R233 and R161. -/
  | php
  /-- PLA, opcode 68, rules R234 and R161. -/
  | pla
  /-- PLX, opcode FA, rules R235 and R161, WDC65C02 only. -/
  | plx
  /-- PLY, opcode 7A, rules R236 and R161, WDC65C02 only. -/
  | ply
  /-- PLP, opcode 28, rules R237 and R161. -/
  | plp
  /-- ADC ($nn,X), opcode 61, rules R250 and R172. -/
  | adcIndX (o : Byte)
  /-- ADC $nn, opcode 65, rules R250 and R165. -/
  | adcZp (o : Byte)
  /-- ADC #$nn, opcode 69, rules R250 and R163. -/
  | adcImm (v : Byte)
  /-- ADC $nnnn, opcode 6D, rules R250 and R168. -/
  | adcAbs (w : Word)
  /-- ADC ($nn),Y, opcode 71, rules R250 and R173. -/
  | adcIndY (o : Byte)
  /-- ADC ($nn), opcode 72, rules R250 and R174, WDC65C02 only. -/
  | adcZpInd (o : Byte)
  /-- ADC $nn,X, opcode 75, rules R250 and R166. -/
  | adcZpX (o : Byte)
  /-- ADC $nnnn,Y, opcode 79, rules R250 and R170. -/
  | adcAbsY (w : Word)
  /-- ADC $nnnn,X, opcode 7D, rules R250 and R169. -/
  | adcAbsX (w : Word)
  /-- SBC ($nn,X), opcode E1, rules R251 and R172. -/
  | sbcIndX (o : Byte)
  /-- SBC $nn, opcode E5, rules R251 and R165. -/
  | sbcZp (o : Byte)
  /-- SBC #$nn, opcode E9, rules R251 and R163. -/
  | sbcImm (v : Byte)
  /-- SBC $nnnn, opcode ED, rules R251 and R168. -/
  | sbcAbs (w : Word)
  /-- SBC ($nn),Y, opcode F1, rules R251 and R173. -/
  | sbcIndY (o : Byte)
  /-- SBC ($nn), opcode F2, rules R251 and R174, WDC65C02 only. -/
  | sbcZpInd (o : Byte)
  /-- SBC $nn,X, opcode F5, rules R251 and R166. -/
  | sbcZpX (o : Byte)
  /-- SBC $nnnn,Y, opcode F9, rules R251 and R170. -/
  | sbcAbsY (w : Word)
  /-- SBC $nnnn,X, opcode FD, rules R251 and R169. -/
  | sbcAbsX (w : Word)
  /-- CMP ($nn,X), opcode C1, rules R252 and R172. -/
  | cmpIndX (o : Byte)
  /-- CMP $nn, opcode C5, rules R252 and R165. -/
  | cmpZp (o : Byte)
  /-- CMP #$nn, opcode C9, rules R252 and R163. -/
  | cmpImm (v : Byte)
  /-- CMP $nnnn, opcode CD, rules R252 and R168. -/
  | cmpAbs (w : Word)
  /-- CMP ($nn),Y, opcode D1, rules R252 and R173. -/
  | cmpIndY (o : Byte)
  /-- CMP ($nn), opcode D2, rules R252 and R174, WDC65C02 only. -/
  | cmpZpInd (o : Byte)
  /-- CMP $nn,X, opcode D5, rules R252 and R166. -/
  | cmpZpX (o : Byte)
  /-- CMP $nnnn,Y, opcode D9, rules R252 and R170. -/
  | cmpAbsY (w : Word)
  /-- CMP $nnnn,X, opcode DD, rules R252 and R169. -/
  | cmpAbsX (w : Word)
  /-- CPX #$nn, opcode E0, rules R253 and R163. -/
  | cpxImm (v : Byte)
  /-- CPX $nn, opcode E4, rules R253 and R165. -/
  | cpxZp (o : Byte)
  /-- CPX $nnnn, opcode EC, rules R253 and R168. -/
  | cpxAbs (w : Word)
  /-- CPY #$nn, opcode C0, rules R254 and R163. -/
  | cpyImm (v : Byte)
  /-- CPY $nn, opcode C4, rules R254 and R165. -/
  | cpyZp (o : Byte)
  /-- CPY $nnnn, opcode CC, rules R254 and R168. -/
  | cpyAbs (w : Word)
  /-- INC A, opcode 1A, rules R276 and R162, WDC65C02 only. -/
  | incA
  /-- INC $nn, opcode E6, rules R270 and R165. -/
  | incZp (o : Byte)
  /-- INC $nnnn, opcode EE, rules R270 and R168. -/
  | incAbs (w : Word)
  /-- INC $nn,X, opcode F6, rules R270 and R166. -/
  | incZpX (o : Byte)
  /-- INC $nnnn,X, opcode FE, rules R270 and R169. -/
  | incAbsX (w : Word)
  /-- DEC A, opcode 3A, rules R277 and R162, WDC65C02 only. -/
  | decA
  /-- DEC $nn, opcode C6, rules R271 and R165. -/
  | decZp (o : Byte)
  /-- DEC $nnnn, opcode CE, rules R271 and R168. -/
  | decAbs (w : Word)
  /-- DEC $nn,X, opcode D6, rules R271 and R166. -/
  | decZpX (o : Byte)
  /-- DEC $nnnn,X, opcode DE, rules R271 and R169. -/
  | decAbsX (w : Word)
  /-- INX, opcode E8, rules R272 and R161. -/
  | inx
  /-- DEX, opcode CA, rules R273 and R161. -/
  | dex
  /-- INY, opcode C8, rules R274 and R161. -/
  | iny
  /-- DEY, opcode 88, rules R275 and R161. -/
  | dey
  /-- ASL $nn, opcode 06, rules R280 and R165. -/
  | aslZp (o : Byte)
  /-- ASL A, opcode 0A, rules R280 and R162. -/
  | aslA
  /-- ASL $nnnn, opcode 0E, rules R280 and R168. -/
  | aslAbs (w : Word)
  /-- ASL $nn,X, opcode 16, rules R280 and R166. -/
  | aslZpX (o : Byte)
  /-- ASL $nnnn,X, opcode 1E, rules R280 and R169. -/
  | aslAbsX (w : Word)
  /-- LSR $nn, opcode 46, rules R281 and R165. -/
  | lsrZp (o : Byte)
  /-- LSR A, opcode 4A, rules R281 and R162. -/
  | lsrA
  /-- LSR $nnnn, opcode 4E, rules R281 and R168. -/
  | lsrAbs (w : Word)
  /-- LSR $nn,X, opcode 56, rules R281 and R166. -/
  | lsrZpX (o : Byte)
  /-- LSR $nnnn,X, opcode 5E, rules R281 and R169. -/
  | lsrAbsX (w : Word)
  /-- ROL $nn, opcode 26, rules R282 and R165. -/
  | rolZp (o : Byte)
  /-- ROL A, opcode 2A, rules R282 and R162. -/
  | rolA
  /-- ROL $nnnn, opcode 2E, rules R282 and R168. -/
  | rolAbs (w : Word)
  /-- ROL $nn,X, opcode 36, rules R282 and R166. -/
  | rolZpX (o : Byte)
  /-- ROL $nnnn,X, opcode 3E, rules R282 and R169. -/
  | rolAbsX (w : Word)
  /-- ROR $nn, opcode 66, rules R283 and R165. -/
  | rorZp (o : Byte)
  /-- ROR A, opcode 6A, rules R283 and R162. -/
  | rorA
  /-- ROR $nnnn, opcode 6E, rules R283 and R168. -/
  | rorAbs (w : Word)
  /-- ROR $nn,X, opcode 76, rules R283 and R166. -/
  | rorZpX (o : Byte)
  /-- ROR $nnnn,X, opcode 7E, rules R283 and R169. -/
  | rorAbsX (w : Word)
  /-- AND ($nn,X), opcode 21, rules R300 and R172. -/
  | andIndX (o : Byte)
  /-- AND $nn, opcode 25, rules R300 and R165. -/
  | andZp (o : Byte)
  /-- AND #$nn, opcode 29, rules R300 and R163. -/
  | andImm (v : Byte)
  /-- AND $nnnn, opcode 2D, rules R300 and R168. -/
  | andAbs (w : Word)
  /-- AND ($nn),Y, opcode 31, rules R300 and R173. -/
  | andIndY (o : Byte)
  /-- AND ($nn), opcode 32, rules R300 and R174, WDC65C02 only. -/
  | andZpInd (o : Byte)
  /-- AND $nn,X, opcode 35, rules R300 and R166. -/
  | andZpX (o : Byte)
  /-- AND $nnnn,Y, opcode 39, rules R300 and R170. -/
  | andAbsY (w : Word)
  /-- AND $nnnn,X, opcode 3D, rules R300 and R169. -/
  | andAbsX (w : Word)
  /-- ORA ($nn,X), opcode 01, rules R301 and R172. -/
  | oraIndX (o : Byte)
  /-- ORA $nn, opcode 05, rules R301 and R165. -/
  | oraZp (o : Byte)
  /-- ORA #$nn, opcode 09, rules R301 and R163. -/
  | oraImm (v : Byte)
  /-- ORA $nnnn, opcode 0D, rules R301 and R168. -/
  | oraAbs (w : Word)
  /-- ORA ($nn),Y, opcode 11, rules R301 and R173. -/
  | oraIndY (o : Byte)
  /-- ORA ($nn), opcode 12, rules R301 and R174, WDC65C02 only. -/
  | oraZpInd (o : Byte)
  /-- ORA $nn,X, opcode 15, rules R301 and R166. -/
  | oraZpX (o : Byte)
  /-- ORA $nnnn,Y, opcode 19, rules R301 and R170. -/
  | oraAbsY (w : Word)
  /-- ORA $nnnn,X, opcode 1D, rules R301 and R169. -/
  | oraAbsX (w : Word)
  /-- EOR ($nn,X), opcode 41, rules R302 and R172. -/
  | eorIndX (o : Byte)
  /-- EOR $nn, opcode 45, rules R302 and R165. -/
  | eorZp (o : Byte)
  /-- EOR #$nn, opcode 49, rules R302 and R163. -/
  | eorImm (v : Byte)
  /-- EOR $nnnn, opcode 4D, rules R302 and R168. -/
  | eorAbs (w : Word)
  /-- EOR ($nn),Y, opcode 51, rules R302 and R173. -/
  | eorIndY (o : Byte)
  /-- EOR ($nn), opcode 52, rules R302 and R174, WDC65C02 only. -/
  | eorZpInd (o : Byte)
  /-- EOR $nn,X, opcode 55, rules R302 and R166. -/
  | eorZpX (o : Byte)
  /-- EOR $nnnn,Y, opcode 59, rules R302 and R170. -/
  | eorAbsY (w : Word)
  /-- EOR $nnnn,X, opcode 5D, rules R302 and R169. -/
  | eorAbsX (w : Word)
  /-- BIT $nn, opcode 24, rules R303 and R165. -/
  | bitZp (o : Byte)
  /-- BIT $nnnn, opcode 2C, rules R303 and R168. -/
  | bitAbs (w : Word)
  /-- BIT $nn,X, opcode 34, rules R303 and R166, WDC65C02 only. -/
  | bitZpX (o : Byte)
  /-- BIT $nnnn,X, opcode 3C, rules R303 and R169, WDC65C02 only. -/
  | bitAbsX (w : Word)
  /-- BIT #$nn, opcode 89, rules R303 and R163, WDC65C02 only. -/
  | bitImm (v : Byte)
  /-- TSB $nn, opcode 04, rules R304 and R165, WDC65C02 only. -/
  | tsbZp (o : Byte)
  /-- TSB $nnnn, opcode 0C, rules R304 and R168, WDC65C02 only. -/
  | tsbAbs (w : Word)
  /-- TRB $nn, opcode 14, rules R305 and R165, WDC65C02 only. -/
  | trbZp (o : Byte)
  /-- TRB $nnnn, opcode 1C, rules R305 and R168, WDC65C02 only. -/
  | trbAbs (w : Word)
  /-- JMP $nnnn, opcode 4C, rules R320 and R168. -/
  | jmpAbs (w : Word)
  /-- JMP ($nnnn), opcode 6C, rules R320 and R171. -/
  | jmpInd (w : Word)
  /-- JMP ($nnnn,X), opcode 7C, rules R320 and R175, WDC65C02 only. -/
  | jmpAbsIndX (w : Word)
  /-- JSR $nnnn, opcode 20, rules R321 and R168. -/
  | jsr (w : Word)
  /-- RTS, opcode 60, rules R322 and R161. -/
  | rts
  /-- RTI, opcode 40, rules R323 and R161. -/
  | rti
  /-- BRK, opcode 00, rules R324 and R161. -/
  | brk
  /-- BCC label, opcode 90, rules R331 and R164. -/
  | bcc (off : Byte)
  /-- BCS label, opcode B0, rules R332 and R164. -/
  | bcs (off : Byte)
  /-- BEQ label, opcode F0, rules R333 and R164. -/
  | beq (off : Byte)
  /-- BNE label, opcode D0, rules R334 and R164. -/
  | bne (off : Byte)
  /-- BMI label, opcode 30, rules R335 and R164. -/
  | bmi (off : Byte)
  /-- BPL label, opcode 10, rules R336 and R164. -/
  | bpl (off : Byte)
  /-- BVC label, opcode 50, rules R337 and R164. -/
  | bvc (off : Byte)
  /-- BVS label, opcode 70, rules R338 and R164. -/
  | bvs (off : Byte)
  /-- BRA label, opcode 80, rules R339 and R164, WDC65C02 only. -/
  | bra (off : Byte)
  /-- CLC, opcode 18, rules R350 and R161. -/
  | clc
  /-- SEC, opcode 38, rules R351 and R161. -/
  | sec
  /-- CLI, opcode 58, rules R352 and R161. -/
  | cli
  /-- SEI, opcode 78, rules R353 and R161. -/
  | sei
  /-- CLD, opcode D8, rules R354 and R161. -/
  | cld
  /-- SED, opcode F8, rules R355 and R161. -/
  | sed
  /-- CLV, opcode B8, rules R356 and R161. -/
  | clv
  /-- NOP, opcode EA, rules R357 and R161. -/
  | nop
  /-- RMB0 $nn, opcode 07, rules R370 and R165, WDC65C02 only. -/
  | rmb0 (o : Byte)
  /-- RMB1 $nn, opcode 17, rules R370 and R165, WDC65C02 only. -/
  | rmb1 (o : Byte)
  /-- RMB2 $nn, opcode 27, rules R370 and R165, WDC65C02 only. -/
  | rmb2 (o : Byte)
  /-- RMB3 $nn, opcode 37, rules R370 and R165, WDC65C02 only. -/
  | rmb3 (o : Byte)
  /-- RMB4 $nn, opcode 47, rules R370 and R165, WDC65C02 only. -/
  | rmb4 (o : Byte)
  /-- RMB5 $nn, opcode 57, rules R370 and R165, WDC65C02 only. -/
  | rmb5 (o : Byte)
  /-- RMB6 $nn, opcode 67, rules R370 and R165, WDC65C02 only. -/
  | rmb6 (o : Byte)
  /-- RMB7 $nn, opcode 77, rules R370 and R165, WDC65C02 only. -/
  | rmb7 (o : Byte)
  /-- SMB0 $nn, opcode 87, rules R371 and R165, WDC65C02 only. -/
  | smb0 (o : Byte)
  /-- SMB1 $nn, opcode 97, rules R371 and R165, WDC65C02 only. -/
  | smb1 (o : Byte)
  /-- SMB2 $nn, opcode A7, rules R371 and R165, WDC65C02 only. -/
  | smb2 (o : Byte)
  /-- SMB3 $nn, opcode B7, rules R371 and R165, WDC65C02 only. -/
  | smb3 (o : Byte)
  /-- SMB4 $nn, opcode C7, rules R371 and R165, WDC65C02 only. -/
  | smb4 (o : Byte)
  /-- SMB5 $nn, opcode D7, rules R371 and R165, WDC65C02 only. -/
  | smb5 (o : Byte)
  /-- SMB6 $nn, opcode E7, rules R371 and R165, WDC65C02 only. -/
  | smb6 (o : Byte)
  /-- SMB7 $nn, opcode F7, rules R371 and R165, WDC65C02 only. -/
  | smb7 (o : Byte)
  /-- BBR0 $nn,label, opcode 0F, rules R372 and R176, WDC65C02 only. -/
  | bbr0 (zp : Byte) (off : Byte)
  /-- BBR1 $nn,label, opcode 1F, rules R372 and R176, WDC65C02 only. -/
  | bbr1 (zp : Byte) (off : Byte)
  /-- BBR2 $nn,label, opcode 2F, rules R372 and R176, WDC65C02 only. -/
  | bbr2 (zp : Byte) (off : Byte)
  /-- BBR3 $nn,label, opcode 3F, rules R372 and R176, WDC65C02 only. -/
  | bbr3 (zp : Byte) (off : Byte)
  /-- BBR4 $nn,label, opcode 4F, rules R372 and R176, WDC65C02 only. -/
  | bbr4 (zp : Byte) (off : Byte)
  /-- BBR5 $nn,label, opcode 5F, rules R372 and R176, WDC65C02 only. -/
  | bbr5 (zp : Byte) (off : Byte)
  /-- BBR6 $nn,label, opcode 6F, rules R372 and R176, WDC65C02 only. -/
  | bbr6 (zp : Byte) (off : Byte)
  /-- BBR7 $nn,label, opcode 7F, rules R372 and R176, WDC65C02 only. -/
  | bbr7 (zp : Byte) (off : Byte)
  /-- BBS0 $nn,label, opcode 8F, rules R373 and R176, WDC65C02 only. -/
  | bbs0 (zp : Byte) (off : Byte)
  /-- BBS1 $nn,label, opcode 9F, rules R373 and R176, WDC65C02 only. -/
  | bbs1 (zp : Byte) (off : Byte)
  /-- BBS2 $nn,label, opcode AF, rules R373 and R176, WDC65C02 only. -/
  | bbs2 (zp : Byte) (off : Byte)
  /-- BBS3 $nn,label, opcode BF, rules R373 and R176, WDC65C02 only. -/
  | bbs3 (zp : Byte) (off : Byte)
  /-- BBS4 $nn,label, opcode CF, rules R373 and R176, WDC65C02 only. -/
  | bbs4 (zp : Byte) (off : Byte)
  /-- BBS5 $nn,label, opcode DF, rules R373 and R176, WDC65C02 only. -/
  | bbs5 (zp : Byte) (off : Byte)
  /-- BBS6 $nn,label, opcode EF, rules R373 and R176, WDC65C02 only. -/
  | bbs6 (zp : Byte) (off : Byte)
  /-- BBS7 $nn,label, opcode FF, rules R373 and R176, WDC65C02 only. -/
  | bbs7 (zp : Byte) (off : Byte)
  /-- reserved NOP, opcode 02, rules R394 and R163, WDC65C02 only. -/
  | nop02 (v : Byte)
  /-- reserved NOP, opcode 22, rules R394 and R163, WDC65C02 only. -/
  | nop22 (v : Byte)
  /-- reserved NOP, opcode 42, rules R394 and R163, WDC65C02 only. -/
  | nop42 (v : Byte)
  /-- reserved NOP, opcode 44, rules R394 and R165, WDC65C02 only. -/
  | nop44 (o : Byte)
  /-- reserved NOP, opcode 54, rules R394 and R166, WDC65C02 only. -/
  | nop54 (o : Byte)
  /-- reserved NOP, opcode 5C, rules R394 and R168, WDC65C02 only. -/
  | nop5C (w : Word)
  /-- reserved NOP, opcode 62, rules R394 and R163, WDC65C02 only. -/
  | nop62 (v : Byte)
  /-- reserved NOP, opcode 82, rules R394 and R163, WDC65C02 only. -/
  | nop82 (v : Byte)
  /-- reserved NOP, opcode C2, rules R394 and R163, WDC65C02 only. -/
  | nopC2 (v : Byte)
  /-- reserved NOP, opcode D4, rules R394 and R166, WDC65C02 only. -/
  | nopD4 (o : Byte)
  /-- reserved NOP, opcode DC, rules R394 and R168, WDC65C02 only. -/
  | nopDC (w : Word)
  /-- reserved NOP, opcode E2, rules R394 and R163, WDC65C02 only. -/
  | nopE2 (v : Byte)
  /-- reserved NOP, opcode F4, rules R394 and R166, WDC65C02 only. -/
  | nopF4 (o : Byte)
  /-- reserved NOP, opcode FC, rules R394 and R168, WDC65C02 only. -/
  | nopFC (w : Word)
  /-- WAI, opcode CB, rules R390 and R161, WDC65C02 only. -/
  | wai
  /-- STP, opcode DB, rules R392 and R161, WDC65C02 only. -/
  | stp
  /-- reserved NOP, opcode 03, rules R394 and R161, WDC65C02 only. -/
  | nop03
  /-- reserved NOP, opcode 0B, rules R394 and R161, WDC65C02 only. -/
  | nop0B
  /-- reserved NOP, opcode 13, rules R394 and R161, WDC65C02 only. -/
  | nop13
  /-- reserved NOP, opcode 1B, rules R394 and R161, WDC65C02 only. -/
  | nop1B
  /-- reserved NOP, opcode 23, rules R394 and R161, WDC65C02 only. -/
  | nop23
  /-- reserved NOP, opcode 2B, rules R394 and R161, WDC65C02 only. -/
  | nop2B
  /-- reserved NOP, opcode 33, rules R394 and R161, WDC65C02 only. -/
  | nop33
  /-- reserved NOP, opcode 3B, rules R394 and R161, WDC65C02 only. -/
  | nop3B
  /-- reserved NOP, opcode 43, rules R394 and R161, WDC65C02 only. -/
  | nop43
  /-- reserved NOP, opcode 4B, rules R394 and R161, WDC65C02 only. -/
  | nop4B
  /-- reserved NOP, opcode 53, rules R394 and R161, WDC65C02 only. -/
  | nop53
  /-- reserved NOP, opcode 5B, rules R394 and R161, WDC65C02 only. -/
  | nop5B
  /-- reserved NOP, opcode 63, rules R394 and R161, WDC65C02 only. -/
  | nop63
  /-- reserved NOP, opcode 6B, rules R394 and R161, WDC65C02 only. -/
  | nop6B
  /-- reserved NOP, opcode 73, rules R394 and R161, WDC65C02 only. -/
  | nop73
  /-- reserved NOP, opcode 7B, rules R394 and R161, WDC65C02 only. -/
  | nop7B
  /-- reserved NOP, opcode 83, rules R394 and R161, WDC65C02 only. -/
  | nop83
  /-- reserved NOP, opcode 8B, rules R394 and R161, WDC65C02 only. -/
  | nop8B
  /-- reserved NOP, opcode 93, rules R394 and R161, WDC65C02 only. -/
  | nop93
  /-- reserved NOP, opcode 9B, rules R394 and R161, WDC65C02 only. -/
  | nop9B
  /-- reserved NOP, opcode A3, rules R394 and R161, WDC65C02 only. -/
  | nopA3
  /-- reserved NOP, opcode AB, rules R394 and R161, WDC65C02 only. -/
  | nopAB
  /-- reserved NOP, opcode B3, rules R394 and R161, WDC65C02 only. -/
  | nopB3
  /-- reserved NOP, opcode BB, rules R394 and R161, WDC65C02 only. -/
  | nopBB
  /-- reserved NOP, opcode C3, rules R394 and R161, WDC65C02 only. -/
  | nopC3
  /-- reserved NOP, opcode D3, rules R394 and R161, WDC65C02 only. -/
  | nopD3
  /-- reserved NOP, opcode E3, rules R394 and R161, WDC65C02 only. -/
  | nopE3
  /-- reserved NOP, opcode EB, rules R394 and R161, WDC65C02 only. -/
  | nopEB
  /-- reserved NOP, opcode F3, rules R394 and R161, WDC65C02 only. -/
  | nopF3
  /-- reserved NOP, opcode FB, rules R394 and R161, WDC65C02 only. -/
  | nopFB
  deriving DecidableEq, Repr

end Sys2Proof
end

