-- ==== Sys2Proof/WellFormed.lean ====
section
/-! DEFINITION. When an instruction exists in a variant (R2, R123, R126, R128, R129). The operands fill their
types, so the variant is the only check there is. -/

namespace Sys2Proof

/-- Whether the NMOS variant has the instruction: the 151 rows of R126 (the `variants` column of
spec/opcode_table.json). The other 105 exist on WDC65C02 only. -/
def Instr.onNmos : Instr → Bool
  | .ldaIndX _ => true
  | .ldaZp _ => true
  | .ldaImm _ => true
  | .ldaAbs _ => true
  | .ldaIndY _ => true
  | .ldaZpInd _ => false
  | .ldaZpX _ => true
  | .ldaAbsY _ => true
  | .ldaAbsX _ => true
  | .ldxImm _ => true
  | .ldxZp _ => true
  | .ldxAbs _ => true
  | .ldxZpY _ => true
  | .ldxAbsY _ => true
  | .ldyImm _ => true
  | .ldyZp _ => true
  | .ldyAbs _ => true
  | .ldyZpX _ => true
  | .ldyAbsX _ => true
  | .staIndX _ => true
  | .staZp _ => true
  | .staAbs _ => true
  | .staIndY _ => true
  | .staZpInd _ => false
  | .staZpX _ => true
  | .staAbsY _ => true
  | .staAbsX _ => true
  | .stxZp _ => true
  | .stxAbs _ => true
  | .stxZpY _ => true
  | .styZp _ => true
  | .styAbs _ => true
  | .styZpX _ => true
  | .stzZp _ => false
  | .stzZpX _ => false
  | .stzAbs _ => false
  | .stzAbsX _ => false
  | .tax => true
  | .tay => true
  | .txa => true
  | .tya => true
  | .tsx => true
  | .txs => true
  | .pha => true
  | .phx => false
  | .phy => false
  | .php => true
  | .pla => true
  | .plx => false
  | .ply => false
  | .plp => true
  | .adcIndX _ => true
  | .adcZp _ => true
  | .adcImm _ => true
  | .adcAbs _ => true
  | .adcIndY _ => true
  | .adcZpInd _ => false
  | .adcZpX _ => true
  | .adcAbsY _ => true
  | .adcAbsX _ => true
  | .sbcIndX _ => true
  | .sbcZp _ => true
  | .sbcImm _ => true
  | .sbcAbs _ => true
  | .sbcIndY _ => true
  | .sbcZpInd _ => false
  | .sbcZpX _ => true
  | .sbcAbsY _ => true
  | .sbcAbsX _ => true
  | .cmpIndX _ => true
  | .cmpZp _ => true
  | .cmpImm _ => true
  | .cmpAbs _ => true
  | .cmpIndY _ => true
  | .cmpZpInd _ => false
  | .cmpZpX _ => true
  | .cmpAbsY _ => true
  | .cmpAbsX _ => true
  | .cpxImm _ => true
  | .cpxZp _ => true
  | .cpxAbs _ => true
  | .cpyImm _ => true
  | .cpyZp _ => true
  | .cpyAbs _ => true
  | .incA => false
  | .incZp _ => true
  | .incAbs _ => true
  | .incZpX _ => true
  | .incAbsX _ => true
  | .decA => false
  | .decZp _ => true
  | .decAbs _ => true
  | .decZpX _ => true
  | .decAbsX _ => true
  | .inx => true
  | .dex => true
  | .iny => true
  | .dey => true
  | .aslZp _ => true
  | .aslA => true
  | .aslAbs _ => true
  | .aslZpX _ => true
  | .aslAbsX _ => true
  | .lsrZp _ => true
  | .lsrA => true
  | .lsrAbs _ => true
  | .lsrZpX _ => true
  | .lsrAbsX _ => true
  | .rolZp _ => true
  | .rolA => true
  | .rolAbs _ => true
  | .rolZpX _ => true
  | .rolAbsX _ => true
  | .rorZp _ => true
  | .rorA => true
  | .rorAbs _ => true
  | .rorZpX _ => true
  | .rorAbsX _ => true
  | .andIndX _ => true
  | .andZp _ => true
  | .andImm _ => true
  | .andAbs _ => true
  | .andIndY _ => true
  | .andZpInd _ => false
  | .andZpX _ => true
  | .andAbsY _ => true
  | .andAbsX _ => true
  | .oraIndX _ => true
  | .oraZp _ => true
  | .oraImm _ => true
  | .oraAbs _ => true
  | .oraIndY _ => true
  | .oraZpInd _ => false
  | .oraZpX _ => true
  | .oraAbsY _ => true
  | .oraAbsX _ => true
  | .eorIndX _ => true
  | .eorZp _ => true
  | .eorImm _ => true
  | .eorAbs _ => true
  | .eorIndY _ => true
  | .eorZpInd _ => false
  | .eorZpX _ => true
  | .eorAbsY _ => true
  | .eorAbsX _ => true
  | .bitZp _ => true
  | .bitAbs _ => true
  | .bitZpX _ => false
  | .bitAbsX _ => false
  | .bitImm _ => false
  | .tsbZp _ => false
  | .tsbAbs _ => false
  | .trbZp _ => false
  | .trbAbs _ => false
  | .jmpAbs _ => true
  | .jmpInd _ => true
  | .jmpAbsIndX _ => false
  | .jsr _ => true
  | .rts => true
  | .rti => true
  | .brk => true
  | .bcc _ => true
  | .bcs _ => true
  | .beq _ => true
  | .bne _ => true
  | .bmi _ => true
  | .bpl _ => true
  | .bvc _ => true
  | .bvs _ => true
  | .bra _ => false
  | .clc => true
  | .sec => true
  | .cli => true
  | .sei => true
  | .cld => true
  | .sed => true
  | .clv => true
  | .nop => true
  | .rmb0 _ => false
  | .rmb1 _ => false
  | .rmb2 _ => false
  | .rmb3 _ => false
  | .rmb4 _ => false
  | .rmb5 _ => false
  | .rmb6 _ => false
  | .rmb7 _ => false
  | .smb0 _ => false
  | .smb1 _ => false
  | .smb2 _ => false
  | .smb3 _ => false
  | .smb4 _ => false
  | .smb5 _ => false
  | .smb6 _ => false
  | .smb7 _ => false
  | .bbr0 _ _ => false
  | .bbr1 _ _ => false
  | .bbr2 _ _ => false
  | .bbr3 _ _ => false
  | .bbr4 _ _ => false
  | .bbr5 _ _ => false
  | .bbr6 _ _ => false
  | .bbr7 _ _ => false
  | .bbs0 _ _ => false
  | .bbs1 _ _ => false
  | .bbs2 _ _ => false
  | .bbs3 _ _ => false
  | .bbs4 _ _ => false
  | .bbs5 _ _ => false
  | .bbs6 _ _ => false
  | .bbs7 _ _ => false
  | .nop02 _ => false
  | .nop22 _ => false
  | .nop42 _ => false
  | .nop44 _ => false
  | .nop54 _ => false
  | .nop5C _ => false
  | .nop62 _ => false
  | .nop82 _ => false
  | .nopC2 _ => false
  | .nopD4 _ => false
  | .nopDC _ => false
  | .nopE2 _ => false
  | .nopF4 _ => false
  | .nopFC _ => false
  | .wai => false
  | .stp => false
  | .nop03 => false
  | .nop0B => false
  | .nop13 => false
  | .nop1B => false
  | .nop23 => false
  | .nop2B => false
  | .nop33 => false
  | .nop3B => false
  | .nop43 => false
  | .nop4B => false
  | .nop53 => false
  | .nop5B => false
  | .nop63 => false
  | .nop6B => false
  | .nop73 => false
  | .nop7B => false
  | .nop83 => false
  | .nop8B => false
  | .nop93 => false
  | .nop9B => false
  | .nopA3 => false
  | .nopAB => false
  | .nopB3 => false
  | .nopBB => false
  | .nopC3 => false
  | .nopD3 => false
  | .nopE3 => false
  | .nopEB => false
  | .nopF3 => false
  | .nopFB => false

/-- An instruction is well-formed in a variant when the variant has it: every one on WDC65C02, the 151 original
ones on NMOS (R123). -/
def Instr.wellFormed (v : Variant) (i : Instr) : Bool :=
  match v with
  | .wdc65c02 => true
  | .nmos => i.onNmos

end Sys2Proof
end

