-- ==== Sys2Proof/Decode.lean ====
section
/-! DEFINITION. The byte and word helpers of R9, the decoder of both variants (R120 to R123, R126 to R130), the
encoder written from the same tables, and the opcode-table view of the decoder that the host reads. -/

namespace Sys2Proof

/-- `lo(w) = w[7:0]` (R9). -/
def lo (w : Word) : Byte := w.extractLsb' 0 8

/-- `hi(w) = w[15:8]` (R9). -/
def hi (w : Word) : Byte := w.extractLsb' 8 8

/-- `{h, l} = (h << 8) | l` (R9): the word with high byte `h` and low byte `l`. -/
def mkWord (h l : Byte) : Word := (h.setWidth 16 <<< 8) ||| l.setWidth 16

/-- `sext_16(b)` (R9). -/
def sext16 (b : Byte) : Word := b.signExtend 16

/-- `zext_16(b) = {0x00, b}` (R9): a zero-page address. -/
def zext16 (b : Byte) : Word := b.setWidth 16

/-- A row of the dispatch table: how many operand bytes follow and which instruction they make (R120, R122). -/
inductive OpForm where
  | f1 (i : Instr)
  | f2 (build : Byte → Instr)
  | f3 (build : Word → Instr)
  | f3zr (build : Byte → Byte → Instr)

/-- The length in bytes of an instruction of the form (R120, R121). -/
def OpForm.length : OpForm → Nat
  | .f1 _ => 1
  | .f2 _ => 2
  | .f3 _ => 3
  | .f3zr _ => 3

/-- Opcode bytes 00 to 0F of the WDC65C02 matrix (R132). -/
def opRow0 : List OpForm :=
  [.f1 .brk, .f2 .oraIndX, .f2 .nop02, .f1 .nop03,
   .f2 .tsbZp, .f2 .oraZp, .f2 .aslZp, .f2 .rmb0,
   .f1 .php, .f2 .oraImm, .f1 .aslA, .f1 .nop0B,
   .f3 .tsbAbs, .f3 .oraAbs, .f3 .aslAbs, .f3zr .bbr0]

/-- Opcode bytes 10 to 1F of the WDC65C02 matrix (R132). -/
def opRow1 : List OpForm :=
  [.f2 .bpl, .f2 .oraIndY, .f2 .oraZpInd, .f1 .nop13,
   .f2 .trbZp, .f2 .oraZpX, .f2 .aslZpX, .f2 .rmb1,
   .f1 .clc, .f3 .oraAbsY, .f1 .incA, .f1 .nop1B,
   .f3 .trbAbs, .f3 .oraAbsX, .f3 .aslAbsX, .f3zr .bbr1]

/-- Opcode bytes 20 to 2F of the WDC65C02 matrix (R132). -/
def opRow2 : List OpForm :=
  [.f3 .jsr, .f2 .andIndX, .f2 .nop22, .f1 .nop23,
   .f2 .bitZp, .f2 .andZp, .f2 .rolZp, .f2 .rmb2,
   .f1 .plp, .f2 .andImm, .f1 .rolA, .f1 .nop2B,
   .f3 .bitAbs, .f3 .andAbs, .f3 .rolAbs, .f3zr .bbr2]

/-- Opcode bytes 30 to 3F of the WDC65C02 matrix (R132). -/
def opRow3 : List OpForm :=
  [.f2 .bmi, .f2 .andIndY, .f2 .andZpInd, .f1 .nop33,
   .f2 .bitZpX, .f2 .andZpX, .f2 .rolZpX, .f2 .rmb3,
   .f1 .sec, .f3 .andAbsY, .f1 .decA, .f1 .nop3B,
   .f3 .bitAbsX, .f3 .andAbsX, .f3 .rolAbsX, .f3zr .bbr3]

/-- Opcode bytes 40 to 4F of the WDC65C02 matrix (R132). -/
def opRow4 : List OpForm :=
  [.f1 .rti, .f2 .eorIndX, .f2 .nop42, .f1 .nop43,
   .f2 .nop44, .f2 .eorZp, .f2 .lsrZp, .f2 .rmb4,
   .f1 .pha, .f2 .eorImm, .f1 .lsrA, .f1 .nop4B,
   .f3 .jmpAbs, .f3 .eorAbs, .f3 .lsrAbs, .f3zr .bbr4]

/-- Opcode bytes 50 to 5F of the WDC65C02 matrix (R132). -/
def opRow5 : List OpForm :=
  [.f2 .bvc, .f2 .eorIndY, .f2 .eorZpInd, .f1 .nop53,
   .f2 .nop54, .f2 .eorZpX, .f2 .lsrZpX, .f2 .rmb5,
   .f1 .cli, .f3 .eorAbsY, .f1 .phy, .f1 .nop5B,
   .f3 .nop5C, .f3 .eorAbsX, .f3 .lsrAbsX, .f3zr .bbr5]

/-- Opcode bytes 60 to 6F of the WDC65C02 matrix (R132). -/
def opRow6 : List OpForm :=
  [.f1 .rts, .f2 .adcIndX, .f2 .nop62, .f1 .nop63,
   .f2 .stzZp, .f2 .adcZp, .f2 .rorZp, .f2 .rmb6,
   .f1 .pla, .f2 .adcImm, .f1 .rorA, .f1 .nop6B,
   .f3 .jmpInd, .f3 .adcAbs, .f3 .rorAbs, .f3zr .bbr6]

/-- Opcode bytes 70 to 7F of the WDC65C02 matrix (R132). -/
def opRow7 : List OpForm :=
  [.f2 .bvs, .f2 .adcIndY, .f2 .adcZpInd, .f1 .nop73,
   .f2 .stzZpX, .f2 .adcZpX, .f2 .rorZpX, .f2 .rmb7,
   .f1 .sei, .f3 .adcAbsY, .f1 .ply, .f1 .nop7B,
   .f3 .jmpAbsIndX, .f3 .adcAbsX, .f3 .rorAbsX, .f3zr .bbr7]

/-- Opcode bytes 80 to 8F of the WDC65C02 matrix (R132). -/
def opRow8 : List OpForm :=
  [.f2 .bra, .f2 .staIndX, .f2 .nop82, .f1 .nop83,
   .f2 .styZp, .f2 .staZp, .f2 .stxZp, .f2 .smb0,
   .f1 .dey, .f2 .bitImm, .f1 .txa, .f1 .nop8B,
   .f3 .styAbs, .f3 .staAbs, .f3 .stxAbs, .f3zr .bbs0]

/-- Opcode bytes 90 to 9F of the WDC65C02 matrix (R132). -/
def opRow9 : List OpForm :=
  [.f2 .bcc, .f2 .staIndY, .f2 .staZpInd, .f1 .nop93,
   .f2 .styZpX, .f2 .staZpX, .f2 .stxZpY, .f2 .smb1,
   .f1 .tya, .f3 .staAbsY, .f1 .txs, .f1 .nop9B,
   .f3 .stzAbs, .f3 .staAbsX, .f3 .stzAbsX, .f3zr .bbs1]

/-- Opcode bytes A0 to AF of the WDC65C02 matrix (R132). -/
def opRowA : List OpForm :=
  [.f2 .ldyImm, .f2 .ldaIndX, .f2 .ldxImm, .f1 .nopA3,
   .f2 .ldyZp, .f2 .ldaZp, .f2 .ldxZp, .f2 .smb2,
   .f1 .tay, .f2 .ldaImm, .f1 .tax, .f1 .nopAB,
   .f3 .ldyAbs, .f3 .ldaAbs, .f3 .ldxAbs, .f3zr .bbs2]

/-- Opcode bytes B0 to BF of the WDC65C02 matrix (R132). -/
def opRowB : List OpForm :=
  [.f2 .bcs, .f2 .ldaIndY, .f2 .ldaZpInd, .f1 .nopB3,
   .f2 .ldyZpX, .f2 .ldaZpX, .f2 .ldxZpY, .f2 .smb3,
   .f1 .clv, .f3 .ldaAbsY, .f1 .tsx, .f1 .nopBB,
   .f3 .ldyAbsX, .f3 .ldaAbsX, .f3 .ldxAbsY, .f3zr .bbs3]

/-- Opcode bytes C0 to CF of the WDC65C02 matrix (R132). -/
def opRowC : List OpForm :=
  [.f2 .cpyImm, .f2 .cmpIndX, .f2 .nopC2, .f1 .nopC3,
   .f2 .cpyZp, .f2 .cmpZp, .f2 .decZp, .f2 .smb4,
   .f1 .iny, .f2 .cmpImm, .f1 .dex, .f1 .wai,
   .f3 .cpyAbs, .f3 .cmpAbs, .f3 .decAbs, .f3zr .bbs4]

/-- Opcode bytes D0 to DF of the WDC65C02 matrix (R132). -/
def opRowD : List OpForm :=
  [.f2 .bne, .f2 .cmpIndY, .f2 .cmpZpInd, .f1 .nopD3,
   .f2 .nopD4, .f2 .cmpZpX, .f2 .decZpX, .f2 .smb5,
   .f1 .cld, .f3 .cmpAbsY, .f1 .phx, .f1 .stp,
   .f3 .nopDC, .f3 .cmpAbsX, .f3 .decAbsX, .f3zr .bbs5]

/-- Opcode bytes E0 to EF of the WDC65C02 matrix (R132). -/
def opRowE : List OpForm :=
  [.f2 .cpxImm, .f2 .sbcIndX, .f2 .nopE2, .f1 .nopE3,
   .f2 .cpxZp, .f2 .sbcZp, .f2 .incZp, .f2 .smb6,
   .f1 .inx, .f2 .sbcImm, .f1 .nop, .f1 .nopEB,
   .f3 .cpxAbs, .f3 .sbcAbs, .f3 .incAbs, .f3zr .bbs6]

/-- Opcode bytes F0 to FF of the WDC65C02 matrix (R132). -/
def opRowF : List OpForm :=
  [.f2 .beq, .f2 .sbcIndY, .f2 .sbcZpInd, .f1 .nopF3,
   .f2 .nopF4, .f2 .sbcZpX, .f2 .incZpX, .f2 .smb7,
   .f1 .sed, .f3 .sbcAbsY, .f1 .plx, .f1 .nopFB,
   .f3 .nopFC, .f3 .sbcAbsX, .f3 .incAbsX, .f3zr .bbs7]

/-- The dense 256-entry table of WDC65C02, keyed by the opcode byte (R123, R126, R128, R129). -/
def opTable : List OpForm :=
  opRow0 ++ opRow1 ++ opRow2 ++ opRow3 ++ opRow4 ++ opRow5 ++ opRow6 ++ opRow7 ++
  opRow8 ++ opRow9 ++ opRowA ++ opRowB ++ opRowC ++ opRowD ++ opRowE ++ opRowF

/-- The 105 bytes undefined on NMOS, listed as R130 lists them. -/
def nmosUndefined : List Byte :=
  [0x02#8, 0x03#8, 0x04#8, 0x07#8, 0x0B#8, 0x0C#8, 0x0F#8, 0x12#8, 0x13#8, 0x14#8, 0x17#8, 0x1A#8, 0x1B#8, 0x1C#8, 0x1F#8,
   0x22#8, 0x23#8, 0x27#8, 0x2B#8, 0x2F#8, 0x32#8, 0x33#8, 0x34#8, 0x37#8, 0x3A#8, 0x3B#8, 0x3C#8, 0x3F#8, 0x42#8, 0x43#8,
   0x44#8, 0x47#8, 0x4B#8, 0x4F#8, 0x52#8, 0x53#8, 0x54#8, 0x57#8, 0x5A#8, 0x5B#8, 0x5C#8, 0x5F#8, 0x62#8, 0x63#8, 0x64#8,
   0x67#8, 0x6B#8, 0x6F#8, 0x72#8, 0x73#8, 0x74#8, 0x77#8, 0x7A#8, 0x7B#8, 0x7C#8, 0x7F#8, 0x80#8, 0x82#8, 0x83#8, 0x87#8,
   0x89#8, 0x8B#8, 0x8F#8, 0x92#8, 0x93#8, 0x97#8, 0x9B#8, 0x9C#8, 0x9E#8, 0x9F#8, 0xA3#8, 0xA7#8, 0xAB#8, 0xAF#8, 0xB2#8,
   0xB3#8, 0xB7#8, 0xBB#8, 0xBF#8, 0xC2#8, 0xC3#8, 0xC7#8, 0xCB#8, 0xCF#8, 0xD2#8, 0xD3#8, 0xD4#8, 0xD7#8, 0xDA#8, 0xDB#8,
   0xDC#8, 0xDF#8, 0xE2#8, 0xE3#8, 0xE7#8, 0xEB#8, 0xEF#8, 0xF2#8, 0xF3#8, 0xF4#8, 0xF7#8, 0xFA#8, 0xFB#8, 0xFC#8, 0xFF#8]

/-- The row of an opcode byte in a variant's table, none where the byte is undefined (R123). -/
def opForm (v : Variant) (b : Byte) : Option OpForm :=
  match v with
  | .wdc65c02 => opTable[b.toNat]?
  | .nmos => if nmosUndefined.contains b then none else opTable[b.toNat]?

/-- Why bytes are no instruction. -/
inductive DecodeError where
  /-- The opcode byte has no row in the variant's table (R123, R130). -/
  | undefinedOpcode (b : Byte)
  /-- The bytes end before the instruction does. -/
  | truncated
  deriving DecidableEq, Repr

/-- The decoder (R120 to R123): the instruction at the head of the bytes and the bytes after it. -/
def decode (v : Variant) : List Byte → Except DecodeError (Instr × List Byte)
  | [] => .error .truncated
  | b :: rest =>
    match opForm v b, rest with
    | none, _ => .error (.undefinedOpcode b)
    | some (.f1 i), rest => .ok (i, rest)
    | some (.f2 build), o :: rest => .ok (build o, rest)
    | some (.f3 build), l :: h :: rest => .ok (build (mkWord h l), rest)
    | some (.f3zr build), zp :: off :: rest => .ok (build zp off, rest)
    | some _, _ => .error .truncated

/-- The encoder, from the same tables: opcode byte, then the operand bytes in ascending addresses, a 16-bit
operand low byte first (R83, R120, R122). -/
def encode : Instr → List Byte
  | .ldaIndX o => [0xA1#8, o]
  | .ldaZp o => [0xA5#8, o]
  | .ldaImm v => [0xA9#8, v]
  | .ldaAbs w => [0xAD#8, lo w, hi w]
  | .ldaIndY o => [0xB1#8, o]
  | .ldaZpInd o => [0xB2#8, o]
  | .ldaZpX o => [0xB5#8, o]
  | .ldaAbsY w => [0xB9#8, lo w, hi w]
  | .ldaAbsX w => [0xBD#8, lo w, hi w]
  | .ldxImm v => [0xA2#8, v]
  | .ldxZp o => [0xA6#8, o]
  | .ldxAbs w => [0xAE#8, lo w, hi w]
  | .ldxZpY o => [0xB6#8, o]
  | .ldxAbsY w => [0xBE#8, lo w, hi w]
  | .ldyImm v => [0xA0#8, v]
  | .ldyZp o => [0xA4#8, o]
  | .ldyAbs w => [0xAC#8, lo w, hi w]
  | .ldyZpX o => [0xB4#8, o]
  | .ldyAbsX w => [0xBC#8, lo w, hi w]
  | .staIndX o => [0x81#8, o]
  | .staZp o => [0x85#8, o]
  | .staAbs w => [0x8D#8, lo w, hi w]
  | .staIndY o => [0x91#8, o]
  | .staZpInd o => [0x92#8, o]
  | .staZpX o => [0x95#8, o]
  | .staAbsY w => [0x99#8, lo w, hi w]
  | .staAbsX w => [0x9D#8, lo w, hi w]
  | .stxZp o => [0x86#8, o]
  | .stxAbs w => [0x8E#8, lo w, hi w]
  | .stxZpY o => [0x96#8, o]
  | .styZp o => [0x84#8, o]
  | .styAbs w => [0x8C#8, lo w, hi w]
  | .styZpX o => [0x94#8, o]
  | .stzZp o => [0x64#8, o]
  | .stzZpX o => [0x74#8, o]
  | .stzAbs w => [0x9C#8, lo w, hi w]
  | .stzAbsX w => [0x9E#8, lo w, hi w]
  | .tax => [0xAA#8]
  | .tay => [0xA8#8]
  | .txa => [0x8A#8]
  | .tya => [0x98#8]
  | .tsx => [0xBA#8]
  | .txs => [0x9A#8]
  | .pha => [0x48#8]
  | .phx => [0xDA#8]
  | .phy => [0x5A#8]
  | .php => [0x08#8]
  | .pla => [0x68#8]
  | .plx => [0xFA#8]
  | .ply => [0x7A#8]
  | .plp => [0x28#8]
  | .adcIndX o => [0x61#8, o]
  | .adcZp o => [0x65#8, o]
  | .adcImm v => [0x69#8, v]
  | .adcAbs w => [0x6D#8, lo w, hi w]
  | .adcIndY o => [0x71#8, o]
  | .adcZpInd o => [0x72#8, o]
  | .adcZpX o => [0x75#8, o]
  | .adcAbsY w => [0x79#8, lo w, hi w]
  | .adcAbsX w => [0x7D#8, lo w, hi w]
  | .sbcIndX o => [0xE1#8, o]
  | .sbcZp o => [0xE5#8, o]
  | .sbcImm v => [0xE9#8, v]
  | .sbcAbs w => [0xED#8, lo w, hi w]
  | .sbcIndY o => [0xF1#8, o]
  | .sbcZpInd o => [0xF2#8, o]
  | .sbcZpX o => [0xF5#8, o]
  | .sbcAbsY w => [0xF9#8, lo w, hi w]
  | .sbcAbsX w => [0xFD#8, lo w, hi w]
  | .cmpIndX o => [0xC1#8, o]
  | .cmpZp o => [0xC5#8, o]
  | .cmpImm v => [0xC9#8, v]
  | .cmpAbs w => [0xCD#8, lo w, hi w]
  | .cmpIndY o => [0xD1#8, o]
  | .cmpZpInd o => [0xD2#8, o]
  | .cmpZpX o => [0xD5#8, o]
  | .cmpAbsY w => [0xD9#8, lo w, hi w]
  | .cmpAbsX w => [0xDD#8, lo w, hi w]
  | .cpxImm v => [0xE0#8, v]
  | .cpxZp o => [0xE4#8, o]
  | .cpxAbs w => [0xEC#8, lo w, hi w]
  | .cpyImm v => [0xC0#8, v]
  | .cpyZp o => [0xC4#8, o]
  | .cpyAbs w => [0xCC#8, lo w, hi w]
  | .incA => [0x1A#8]
  | .incZp o => [0xE6#8, o]
  | .incAbs w => [0xEE#8, lo w, hi w]
  | .incZpX o => [0xF6#8, o]
  | .incAbsX w => [0xFE#8, lo w, hi w]
  | .decA => [0x3A#8]
  | .decZp o => [0xC6#8, o]
  | .decAbs w => [0xCE#8, lo w, hi w]
  | .decZpX o => [0xD6#8, o]
  | .decAbsX w => [0xDE#8, lo w, hi w]
  | .inx => [0xE8#8]
  | .dex => [0xCA#8]
  | .iny => [0xC8#8]
  | .dey => [0x88#8]
  | .aslZp o => [0x06#8, o]
  | .aslA => [0x0A#8]
  | .aslAbs w => [0x0E#8, lo w, hi w]
  | .aslZpX o => [0x16#8, o]
  | .aslAbsX w => [0x1E#8, lo w, hi w]
  | .lsrZp o => [0x46#8, o]
  | .lsrA => [0x4A#8]
  | .lsrAbs w => [0x4E#8, lo w, hi w]
  | .lsrZpX o => [0x56#8, o]
  | .lsrAbsX w => [0x5E#8, lo w, hi w]
  | .rolZp o => [0x26#8, o]
  | .rolA => [0x2A#8]
  | .rolAbs w => [0x2E#8, lo w, hi w]
  | .rolZpX o => [0x36#8, o]
  | .rolAbsX w => [0x3E#8, lo w, hi w]
  | .rorZp o => [0x66#8, o]
  | .rorA => [0x6A#8]
  | .rorAbs w => [0x6E#8, lo w, hi w]
  | .rorZpX o => [0x76#8, o]
  | .rorAbsX w => [0x7E#8, lo w, hi w]
  | .andIndX o => [0x21#8, o]
  | .andZp o => [0x25#8, o]
  | .andImm v => [0x29#8, v]
  | .andAbs w => [0x2D#8, lo w, hi w]
  | .andIndY o => [0x31#8, o]
  | .andZpInd o => [0x32#8, o]
  | .andZpX o => [0x35#8, o]
  | .andAbsY w => [0x39#8, lo w, hi w]
  | .andAbsX w => [0x3D#8, lo w, hi w]
  | .oraIndX o => [0x01#8, o]
  | .oraZp o => [0x05#8, o]
  | .oraImm v => [0x09#8, v]
  | .oraAbs w => [0x0D#8, lo w, hi w]
  | .oraIndY o => [0x11#8, o]
  | .oraZpInd o => [0x12#8, o]
  | .oraZpX o => [0x15#8, o]
  | .oraAbsY w => [0x19#8, lo w, hi w]
  | .oraAbsX w => [0x1D#8, lo w, hi w]
  | .eorIndX o => [0x41#8, o]
  | .eorZp o => [0x45#8, o]
  | .eorImm v => [0x49#8, v]
  | .eorAbs w => [0x4D#8, lo w, hi w]
  | .eorIndY o => [0x51#8, o]
  | .eorZpInd o => [0x52#8, o]
  | .eorZpX o => [0x55#8, o]
  | .eorAbsY w => [0x59#8, lo w, hi w]
  | .eorAbsX w => [0x5D#8, lo w, hi w]
  | .bitZp o => [0x24#8, o]
  | .bitAbs w => [0x2C#8, lo w, hi w]
  | .bitZpX o => [0x34#8, o]
  | .bitAbsX w => [0x3C#8, lo w, hi w]
  | .bitImm v => [0x89#8, v]
  | .tsbZp o => [0x04#8, o]
  | .tsbAbs w => [0x0C#8, lo w, hi w]
  | .trbZp o => [0x14#8, o]
  | .trbAbs w => [0x1C#8, lo w, hi w]
  | .jmpAbs w => [0x4C#8, lo w, hi w]
  | .jmpInd w => [0x6C#8, lo w, hi w]
  | .jmpAbsIndX w => [0x7C#8, lo w, hi w]
  | .jsr w => [0x20#8, lo w, hi w]
  | .rts => [0x60#8]
  | .rti => [0x40#8]
  | .brk => [0x00#8]
  | .bcc off => [0x90#8, off]
  | .bcs off => [0xB0#8, off]
  | .beq off => [0xF0#8, off]
  | .bne off => [0xD0#8, off]
  | .bmi off => [0x30#8, off]
  | .bpl off => [0x10#8, off]
  | .bvc off => [0x50#8, off]
  | .bvs off => [0x70#8, off]
  | .bra off => [0x80#8, off]
  | .clc => [0x18#8]
  | .sec => [0x38#8]
  | .cli => [0x58#8]
  | .sei => [0x78#8]
  | .cld => [0xD8#8]
  | .sed => [0xF8#8]
  | .clv => [0xB8#8]
  | .nop => [0xEA#8]
  | .rmb0 o => [0x07#8, o]
  | .rmb1 o => [0x17#8, o]
  | .rmb2 o => [0x27#8, o]
  | .rmb3 o => [0x37#8, o]
  | .rmb4 o => [0x47#8, o]
  | .rmb5 o => [0x57#8, o]
  | .rmb6 o => [0x67#8, o]
  | .rmb7 o => [0x77#8, o]
  | .smb0 o => [0x87#8, o]
  | .smb1 o => [0x97#8, o]
  | .smb2 o => [0xA7#8, o]
  | .smb3 o => [0xB7#8, o]
  | .smb4 o => [0xC7#8, o]
  | .smb5 o => [0xD7#8, o]
  | .smb6 o => [0xE7#8, o]
  | .smb7 o => [0xF7#8, o]
  | .bbr0 zp off => [0x0F#8, zp, off]
  | .bbr1 zp off => [0x1F#8, zp, off]
  | .bbr2 zp off => [0x2F#8, zp, off]
  | .bbr3 zp off => [0x3F#8, zp, off]
  | .bbr4 zp off => [0x4F#8, zp, off]
  | .bbr5 zp off => [0x5F#8, zp, off]
  | .bbr6 zp off => [0x6F#8, zp, off]
  | .bbr7 zp off => [0x7F#8, zp, off]
  | .bbs0 zp off => [0x8F#8, zp, off]
  | .bbs1 zp off => [0x9F#8, zp, off]
  | .bbs2 zp off => [0xAF#8, zp, off]
  | .bbs3 zp off => [0xBF#8, zp, off]
  | .bbs4 zp off => [0xCF#8, zp, off]
  | .bbs5 zp off => [0xDF#8, zp, off]
  | .bbs6 zp off => [0xEF#8, zp, off]
  | .bbs7 zp off => [0xFF#8, zp, off]
  | .nop02 v => [0x02#8, v]
  | .nop22 v => [0x22#8, v]
  | .nop42 v => [0x42#8, v]
  | .nop44 o => [0x44#8, o]
  | .nop54 o => [0x54#8, o]
  | .nop5C w => [0x5C#8, lo w, hi w]
  | .nop62 v => [0x62#8, v]
  | .nop82 v => [0x82#8, v]
  | .nopC2 v => [0xC2#8, v]
  | .nopD4 o => [0xD4#8, o]
  | .nopDC w => [0xDC#8, lo w, hi w]
  | .nopE2 v => [0xE2#8, v]
  | .nopF4 o => [0xF4#8, o]
  | .nopFC w => [0xFC#8, lo w, hi w]
  | .wai => [0xCB#8]
  | .stp => [0xDB#8]
  | .nop03 => [0x03#8]
  | .nop0B => [0x0B#8]
  | .nop13 => [0x13#8]
  | .nop1B => [0x1B#8]
  | .nop23 => [0x23#8]
  | .nop2B => [0x2B#8]
  | .nop33 => [0x33#8]
  | .nop3B => [0x3B#8]
  | .nop43 => [0x43#8]
  | .nop4B => [0x4B#8]
  | .nop53 => [0x53#8]
  | .nop5B => [0x5B#8]
  | .nop63 => [0x63#8]
  | .nop6B => [0x6B#8]
  | .nop73 => [0x73#8]
  | .nop7B => [0x7B#8]
  | .nop83 => [0x83#8]
  | .nop8B => [0x8B#8]
  | .nop93 => [0x93#8]
  | .nop9B => [0x9B#8]
  | .nopA3 => [0xA3#8]
  | .nopAB => [0xAB#8]
  | .nopB3 => [0xB3#8]
  | .nopBB => [0xBB#8]
  | .nopC3 => [0xC3#8]
  | .nopD3 => [0xD3#8]
  | .nopE3 => [0xE3#8]
  | .nopEB => [0xEB#8]
  | .nopF3 => [0xF3#8]
  | .nopFB => [0xFB#8]

/-- The opcode byte of an instruction. -/
def Instr.opcode (i : Instr) : Byte := (encode i).headD 0x00#8

/-- The length of an instruction in bytes (R120, R121): 1, 2 or 3. -/
def Instr.length (i : Instr) : Nat := (encode i).length

/-- The three bytes of the opcode-table number `w`, the first byte in bits 7 to 0, every bit from `nbits` up
being 0. -/
def tableBytes (nbits w : Nat) : List Byte :=
  let u := w % 2 ^ nbits
  [BitVec.ofNat 8 u, BitVec.ofNat 8 (u / 256), BitVec.ofNat 8 (u / 65536)]

/-- The instruction the decoder reads from the opcode-table number `w` of `nbits` bits, in the variant that has a
row for every byte (WDC65C02). -/
def decodeTableWord (nbits w : Nat) : Option Instr :=
  match decode .wdc65c02 (tableBytes nbits w) with
  | .ok (i, _) => some i
  | .error _ => none

end Sys2Proof
end

