-- ==== Sys2Proof/Machine/Timing.lean ====
section
/-! DEFINITION. The cycle figures of the driver: `BaseCycles(VARIANT, opcode)` (R126, R128, R129, R131, D11) and the
counts of reset and interrupt entry (R5, R461, R411, R412). -/

namespace Sys2Proof.Machine

/-- The base cycles of opcodes 00 to 7F on NMOS, 0 where the byte is undefined. -/
def nmosCyclesLow : List Nat :=
  [7, 6, 0, 0, 0, 3, 5, 0, 3, 2, 2, 0, 0, 4, 6, 0,
   2, 5, 0, 0, 0, 4, 6, 0, 2, 4, 0, 0, 0, 4, 7, 0,
   6, 6, 0, 0, 3, 3, 5, 0, 4, 2, 2, 0, 4, 4, 6, 0,
   2, 5, 0, 0, 0, 4, 6, 0, 2, 4, 0, 0, 0, 4, 7, 0,
   6, 6, 0, 0, 0, 3, 5, 0, 3, 2, 2, 0, 3, 4, 6, 0,
   2, 5, 0, 0, 0, 4, 6, 0, 2, 4, 0, 0, 0, 4, 7, 0,
   6, 6, 0, 0, 0, 3, 5, 0, 4, 2, 2, 0, 5, 4, 6, 0,
   2, 5, 0, 0, 0, 4, 6, 0, 2, 4, 0, 0, 0, 4, 7, 0]

/-- The base cycles of opcodes 80 to FF on NMOS, 0 where the byte is undefined. -/
def nmosCyclesHigh : List Nat :=
  [0, 6, 0, 0, 3, 3, 3, 0, 2, 0, 2, 0, 4, 4, 4, 0,
   2, 6, 0, 0, 4, 4, 4, 0, 2, 5, 2, 0, 0, 5, 0, 0,
   2, 6, 2, 0, 3, 3, 3, 0, 2, 2, 2, 0, 4, 4, 4, 0,
   2, 5, 0, 0, 4, 4, 4, 0, 2, 4, 2, 0, 4, 4, 4, 0,
   2, 6, 0, 0, 3, 3, 5, 0, 2, 2, 2, 0, 4, 4, 6, 0,
   2, 5, 0, 0, 0, 4, 6, 0, 2, 4, 0, 0, 0, 4, 7, 0,
   2, 6, 0, 0, 3, 3, 5, 0, 2, 2, 2, 0, 4, 4, 6, 0,
   2, 5, 0, 0, 0, 4, 6, 0, 2, 4, 0, 0, 0, 4, 7, 0]

/-- The base cycles of opcodes 00 to 7F on WDC65C02. -/
def wdcCyclesLow : List Nat :=
  [7, 6, 2, 1, 5, 3, 5, 5, 3, 2, 2, 1, 6, 4, 6, 5,
   2, 5, 5, 1, 5, 4, 6, 5, 2, 4, 2, 1, 6, 4, 6, 5,
   6, 6, 2, 1, 3, 3, 5, 5, 4, 2, 2, 1, 4, 4, 6, 5,
   2, 5, 5, 1, 4, 4, 6, 5, 2, 4, 2, 1, 4, 4, 6, 5,
   6, 6, 2, 1, 3, 3, 5, 5, 3, 2, 2, 1, 3, 4, 6, 5,
   2, 5, 5, 1, 4, 4, 6, 5, 2, 4, 3, 1, 8, 4, 6, 5,
   6, 6, 2, 1, 3, 3, 5, 5, 4, 2, 2, 1, 6, 4, 6, 5,
   2, 5, 5, 1, 4, 4, 6, 5, 2, 4, 4, 1, 6, 4, 6, 5]

/-- The base cycles of opcodes 80 to FF on WDC65C02. -/
def wdcCyclesHigh : List Nat :=
  [3, 6, 2, 1, 3, 3, 3, 5, 2, 2, 2, 1, 4, 4, 4, 5,
   2, 6, 5, 1, 4, 4, 4, 5, 2, 5, 2, 1, 4, 5, 5, 5,
   2, 6, 2, 1, 3, 3, 3, 5, 2, 2, 2, 1, 4, 4, 4, 5,
   2, 5, 5, 1, 4, 4, 4, 5, 2, 4, 2, 1, 4, 4, 4, 5,
   2, 6, 2, 1, 3, 3, 5, 5, 2, 2, 2, 3, 4, 4, 6, 5,
   2, 5, 5, 1, 4, 4, 6, 5, 2, 4, 3, 3, 4, 4, 7, 5,
   2, 6, 2, 1, 3, 3, 5, 5, 2, 2, 2, 1, 4, 4, 6, 5,
   2, 5, 5, 1, 4, 4, 6, 5, 2, 4, 4, 1, 4, 4, 7, 5]

/-- The published table, the spec's default for its parameter `BaseCycles` (R131, D11). Log entry 5. -/
def publishedCycles : CycleTable :=
  { nmos := nmosCyclesLow ++ nmosCyclesHigh, wdc65c02 := wdcCyclesLow ++ wdcCyclesHigh }

/-- `BaseCycles(VARIANT, opcode)` by a table (R6, R131). -/
def baseCycles (costs : CycleTable) (v : Variant) (b : Byte) : Nat :=
  match v with
  | .nmos => costs.nmos.getD b.toNat 0
  | .wdc65c02 => costs.wdc65c02.getD b.toNat 0

/-- `ResetCycles(VARIANT)` (R5, R461). -/
def resetCycles (v : Variant) : Nat :=
  match v with
  | .nmos => 6
  | .wdc65c02 => 7

/-- What an NMI or IRQ entry costs (R5, R411, R412). -/
def entryCycles : Nat := 7

end Sys2Proof.Machine
end

