-- ==== Sys2Proof/Machine/State.lean ====
section
/-! DEFINITION. The state of the machine as plain data (10_state.md), the reasons a step can stop, and the state
right after reset (R56). -/

namespace Sys2Proof.Machine

/-- One access of the core to its Bus (R80, R84): always one byte. -/
inductive Access where
  | read (addr : Word) (value : Byte)
  | write (addr : Word) (value : Byte)
  deriving DecidableEq, Repr

/-- Everything the spec gives the machine. -/
structure State where
  /-- The variant tag, immutable after construction (R46). -/
  variant : Variant
  /-- The accumulator (R31). -/
  a : Byte
  /-- Index register X (R32). -/
  x : Byte
  /-- Index register Y (R33). -/
  y : Byte
  /-- The stack pointer into page 1 (R34). -/
  sp : Byte
  /-- The status register P, bits N V U B D I Z C from 7 down to 0 (R36). -/
  p : Byte
  /-- The program counter (R35). -/
  pc : Word
  /-- The cycle budget `Cycles`, unbounded (R48). -/
  cycles : Nat
  /-- The halt flag `Halted` (R49). -/
  halted : Bool
  /-- The wait latch `Waiting` of WAI (R50). -/
  waiting : Bool
  /-- The request latch `ResetPending` (R47). -/
  resetPending : Bool
  /-- The request latch `NMIPending` (R47). -/
  nmiPending : Bool
  /-- The request latch `IRQPending` (R47). -/
  irqPending : Bool
  /-- The bytes the memory behind the Bus holds (R80, R81, D18): addresses strictly rising, no entry equal to what
  an unlisted address reads as. -/
  mem : List Host.Cell
  /-- The parameter `BUS`, fixed at construction (R6, R80, R460): what stands where, the first region that holds an
  address deciding; an address in no region is RAM, so that `[]` is the default platform of D18. Log entry 2. -/
  map : List Region
  /-- The state of the devices behind the Bus (R80, R465): what they answer to the core's device reads, from the first
  since construction on. Beyond the list an answer is a free value. Log entry 2. -/
  answers : List Byte
  /-- The parameter `BaseCycles`, fixed at construction (R6, R131, D11). Log entry 5. -/
  costs : CycleTable
  /-- Whether a reset has run since construction: the contract's "reset first" (R57, R465). The model's own
  field, log entry 6. -/
  started : Bool
  /-- The Bus accesses made since construction, oldest first (R80: the Bus "answers reads and records writes"; R87,
  R90, R96). Of it a step reads only how many device reads there were. Log entry 6. -/
  bus : List Access
  deriving DecidableEq, Repr

/-- Why the machine stops with a fault: never. "No exceptions are raised from inside `step()`" and no treatment
of the spec is a fault (R417, 93_implementation_defined.md Part 1), so the type has no constructor. Safe: a
proof about a fault has nothing to prove. Log entry 7. -/
inductive Fault where
  deriving DecidableEq, Repr

/-- Why the model gives a step no meaning. -/
inductive Refusal where
  /-- Raised by an arm of `exec` whose instruction has no meaning yet; no arm raises it. Safe. -/
  | notModelled (mnemonic : String)
  /-- Raised by `step` when no reset has run since construction: "a model should ... refuse a `step()` before
  it" (R57, U5, D5). Safe: the spec puts such a step outside the contract. -/
  | stepBeforeReset
  deriving DecidableEq, Repr

/-- The outcome of an instruction and of a step. -/
abbrev Result := Host.Outcome State Fault Refusal

/-- The machine right after the direct `reset()` (R56, R461, R462) of a core built as WDC65C02 over a memory that
lists nothing, on the default platform (D18, log entry 2) and with the published cycle table (D11, log entry 5). SP, A, X,
Y, I, U, D, `Cycles` and the flags of the driver are the spec's values; C, Z, V, N and B are 0 (log entry 4); PC is the
word at 0xFFFC of that memory (log entry 3). The two vector reads of the reset are on the Bus. -/
def State.reset : State :=
  { variant := Config.resetVariant
    a := 0x00#8
    x := 0x00#8
    y := 0x00#8
    sp := 0xFD#8
    p := 0x24#8
    pc := 0x0000#16
    cycles := 7
    halted := false
    waiting := false
    resetPending := false
    nmiPending := false
    irqPending := false
    mem := []
    map := []
    answers := []
    costs := publishedCycles
    started := true
    bus := [.read 0xFFFC#16 0x00#8, .read 0xFFFD#16 0x00#8] }

end Sys2Proof.Machine
end

