-- ==== Sys2Proof/Machine/Flags.lean ====
section
/-! DEFINITION. The status register's bits (R9, R36) and every flag and result computation of the ALU: Z and N
from a result (R11), the adder (R250, R251), the comparison (R252 to R254), the shifts and rotates (R280 to
R283), and the copies of P that the stack sees (R37). -/

namespace Sys2Proof.Machine

/-- The eight named bits of P (R36). -/
inductive Flag where
  | c
  | z
  | i
  | d
  | b
  | u
  | v
  | n
  deriving DecidableEq, Repr

/-- The bit number of a flag in P (R9, R36). -/
def flagBit : Flag → Nat
  | .c => 0
  | .z => 1
  | .i => 2
  | .d => 3
  | .b => 4
  | .u => 5
  | .v => 6
  | .n => 7

/-- A flag of the byte `p`. -/
def getFlag (f : Flag) (p : Byte) : Bool := p.getLsbD (flagBit f)

/-- `p` with one flag set to `on` and every other bit as it was. -/
def putFlag (f : Flag) (on : Bool) (p : Byte) : Byte :=
  if on then p ||| (1#8 <<< flagBit f) else p &&& ~~~(1#8 <<< flagBit f)

/-- `SetZN(v)` on the byte `p` (R11): Z is `v = 0`, N is bit 7 of `v`. -/
def putZN (v p : Byte) : Byte := putFlag .n (v.getLsbD 7) (putFlag .z (v == 0x00#8) p)

/-- What PHP and BRK push: `P | 0x30` (R37). -/
def stackedByBrk (p : Byte) : Byte := p ||| 0x30#8

/-- What NMI and IRQ entry push: `(P | 0x20) & 0xEF` (R37). -/
def stackedByInterrupt (p : Byte) : Byte := (p ||| 0x20#8) &&& 0xEF#8

/-- What P becomes when the byte `v` is pulled by PLP or RTI: `(v | 0x20) & 0xEF` (R37). -/
def pulledStatus (v : Byte) : Byte := (v ||| 0x20#8) &&& 0xEF#8

/-- A result of the adder with its carry and overflow. -/
structure Sum where
  res : Byte
  carry : Bool
  overflow : Bool
  deriving DecidableEq, Repr

/-- The binary adder of ADC (R250): `r = A + M + C` as an unbounded integer, C when `r > 0xFF`, V when both
operands differ in bit 7 from the result. D is not consulted (R256). -/
def addBytes (a m : Byte) (c : Bool) : Sum :=
  let r := a.toNat + m.toNat + c.toNat
  let res := BitVec.ofNat 8 r
  { res := res
    carry := decide (0xFF < r)
    overflow := ((a ^^^ res) &&& (m ^^^ res)).getLsbD 7 }

/-- SBC is the adder on the complement of the operand (R251, C8). -/
def subBytes (a m : Byte) (c : Bool) : Sum := addBytes a (m ^^^ 0xFF#8) c

/-- P after a comparison of a register with `m` (R252 to R254): C when `reg >= m` unsigned, Z when equal, N bit 7
of the low byte of the difference. -/
def compareStatus (reg m p : Byte) : Byte :=
  putFlag .c (decide (m.toNat ≤ reg.toNat))
    (putFlag .z (reg == m) (putFlag .n ((reg - m).getLsbD 7) p))

/-- A shifted byte and the bit that left it. -/
structure Shifted where
  res : Byte
  out : Bool
  deriving DecidableEq, Repr

/-- The four shifts and rotates. -/
inductive ShiftOp where
  | asl
  | lsr
  | rol
  | ror
  deriving DecidableEq, Repr

/-- The shifted byte and the outgoing bit, from the operand and the old carry (R280 to R283). -/
def shiftByte (op : ShiftOp) (c : Bool) (v : Byte) : Shifted :=
  match op with
  | .asl => { res := v <<< 1, out := v.getLsbD 7 }
  | .lsr => { res := v >>> 1, out := v.getLsbD 0 }
  | .rol => { res := (v <<< 1) ||| (if c then 0x01#8 else 0x00#8), out := v.getLsbD 7 }
  | .ror => { res := (v >>> 1) ||| (if c then 0x80#8 else 0x00#8), out := v.getLsbD 0 }

/-- P after a shift or rotate: C from the outgoing bit, Z and N from the result (R280 to R283). -/
def shiftStatus (r : Shifted) (p : Byte) : Byte := putZN r.res (putFlag .c r.out p)

end Sys2Proof.Machine
end

