-- ==== Sys2Proof/Machine/Ops.lean ====
section
/-! DEFINITION. The named operations over memory and registers (R10, R11), the exception entry shared by BRK, NMI
and IRQ (R324, R414), the return from it (R323), and the reset sequence (R462). -/

namespace Sys2Proof.Machine

/-- The byte at an address of the memory list; an unlisted address reads as `Config.unlistedByte`. -/
def Memory.read : List Host.Cell → Nat → Byte
  | [], _ => Config.unlistedByte
  | (b, v) :: rest, a => if b = a then v else Memory.read rest a

/-- The memory list with one byte written, in the canonical form: writing the value an unlisted address reads as
removes the entry. -/
def Memory.write : List Host.Cell → Nat → Byte → List Host.Cell
  | [], a, v => if v = Config.unlistedByte then [] else [(a, v)]
  | (b, u) :: rest, a, v =>
    if a < b then (if v = Config.unlistedByte then (b, u) :: rest else (a, v) :: (b, u) :: rest)
    else if a = b then (if v = Config.unlistedByte then rest else (a, v) :: rest)
    else (b, u) :: Memory.write rest a v

/-- Every entry's address is at least `low` and below 65536, addresses rise strictly, and no entry holds the
unlisted value. -/
def Memory.wfFrom : Nat → List Host.Cell → Bool
  | _, [] => true
  | low, (b, v) :: rest =>
    decide (low ≤ b) && decide (b < 65536) && decide (v ≠ Config.unlistedByte) && Memory.wfFrom (b + 1) rest

/-- The canonical form of a memory list over the 65,536 bytes of R81. -/
def Memory.wf (m : List Host.Cell) : Bool := Memory.wfFrom 0 m

/-- What a map has at an address: the first region that holds it decides, RAM where none does (R80, R88). -/
def kindIn : List Region → Word → RegionKind
  | [], _ => .ram
  | r :: rest, addr =>
    if r.first.toNat ≤ addr.toNat ∧ addr.toNat ≤ r.last.toNat then r.kind else kindIn rest addr

/-- What stands behind the Bus at an address. -/
def State.kindAt (s : State) (addr : Word) : RegionKind := kindIn s.map addr

/-- An access that reads a device. -/
def isDeviceRead (map : List Region) (access : Access) : Bool :=
  match access with
  | .read addr _ => decide (kindIn map addr = .device)
  | .write _ _ => false

/-- How many device reads the core has made since construction. -/
def State.deviceReads (s : State) : Nat := s.bus.countP (isDeviceRead s.map)

/-- What a device answers to the next read (R80): the host's answer where it gave one, a free value where not. -/
def State.deviceAnswer (s : State) (addr : Word) : Byte :=
  s.answers.getD s.deviceReads (Config.deviceByte s.deviceReads addr)

/-- The byte the Bus would answer at an address now (R80). No access is made: this is how statements look at the
Bus. A read of a device changes what the next device read answers. -/
def State.peek (s : State) (addr : Word) : Byte :=
  match s.kindAt addr with
  | .ram => Memory.read s.mem addr.toNat
  | .rom => Memory.read s.mem addr.toNat
  | .device => s.deviceAnswer addr

/-- Memory after a write to the Bus (R80, R88): it lands in RAM; ROM keeps its bytes, and a device, which has seen the
write, holds no memory. -/
def busWrite (map : List Region) (m : List Host.Cell) (addr : Word) (v : Byte) : List Host.Cell :=
  match kindIn map addr with
  | .ram => Memory.write m addr.toNat v
  | .rom => m
  | .device => m

/-- The state after one Bus read of `addr`, whose answer is `s.peek addr` (R10). -/
def State.noteRead (s : State) (addr : Word) : State :=
  { s with bus := s.bus ++ [.read addr (s.peek addr)] }

/-- `MemRead(addr, 1)` (R10): the byte, and the state with the access made. -/
def State.memRead (s : State) (addr : Word) : Byte × State := (s.peek addr, s.noteRead addr)

/-- `MemWrite(addr, 1, v)` (R10): the write is always made, whatever stands there (R87). -/
def State.memWrite (s : State) (addr : Word) (v : Byte) : State :=
  { s with mem := busWrite s.map s.mem addr v, bus := s.bus ++ [.write addr v] }

/-- `Fetch8()` (R11): one read at PC, and PC past it modulo 65536. -/
def State.fetch8 (s : State) : Byte × State :=
  (s.peek s.pc, { s.noteRead s.pc with pc := s.pc + 1#16 })

/-- The word two Bus reads would give now, the low byte from the first: a look, no access. -/
def State.peekWord (s : State) (low high : Word) : Word := mkWord ((s.noteRead low).peek high) (s.peek low)

/-- Two Bus reads, the low byte at `low` and then the high byte at `high`: the shape of every pointer and vector
read (R83, D7). -/
def State.readWordAt (s : State) (low high : Word) : Word × State :=
  (s.peekWord low high, (s.noteRead low).noteRead high)

/-- `Read16(a)` (R11). -/
def State.read16 (s : State) (addr : Word) : Word × State := s.readWordAt addr (addr + 1#16)

/-- The stack address `0x0100 | SP` (R34). -/
def stackAddr (sp : Byte) : Word := mkWord 0x01#8 sp

/-- `Push(v)` (R11): the write uses SP before the decrement. -/
def State.push (s : State) (v : Byte) : State :=
  { s.memWrite (stackAddr s.sp) v with sp := s.sp - 1#8 }

/-- `Pull()` (R11): the read uses SP after the increment. -/
def State.pull (s : State) : Byte × State :=
  (s.peek (stackAddr (s.sp + 1#8)), { s.noteRead (stackAddr (s.sp + 1#8)) with sp := s.sp + 1#8 })

/-- A word pushed high byte first (R83). -/
def State.pushWord (s : State) (w : Word) : State := (s.push (hi w)).push (lo w)

/-- A word pulled low byte first (R83). -/
def State.pullWord (s : State) : Word × State :=
  (mkWord s.pull.2.pull.1 s.pull.1, s.pull.2.pull.2)

/-- A flag of the live register. -/
def State.flag (s : State) (f : Flag) : Bool := getFlag f s.p

/-- A flag of the live register written. -/
def State.setFlag (s : State) (f : Flag) (on : Bool) : State := { s with p := putFlag f on s.p }

/-- `SetZN(v)` (R11). -/
def State.setZN (s : State) (v : Byte) : State := { s with p := putZN v s.p }

/-- `Charge(n)` (R11). -/
def State.charge (s : State) (n : Nat) : State := { s with cycles := s.cycles + n }

/-- The page-cross bonus: one cycle when the mode reported a crossing (R177, R476). -/
def State.chargeCross (s : State) (crossed : Bool) : State := if crossed then s.charge 1 else s

/-- The NMI vector (R5, R88). -/
def nmiVector : Word := 0xFFFA#16

/-- The RESET vector (R5, R88). -/
def resetVector : Word := 0xFFFC#16

/-- The IRQ/BRK vector (R5, R88). -/
def irqVector : Word := 0xFFFE#16

/-- P on entry to a handler: I set, and on WDC65C02 D cleared (R324, R414). -/
def entryStatus (v : Variant) (p : Byte) : Byte :=
  match v with
  | .nmos => putFlag .i true p
  | .wdc65c02 => putFlag .d false (putFlag .i true p)

/-- TAKING AN EXCEPTION, the sequence BRK, NMI and IRQ share (R324, R414): push PC high, PC low and the stacked
copy of P, then set I (and clear D on WDC65C02), then PC from the vector, low byte first. -/
def State.takeException (s : State) (vector : Word) (stacked : Byte) : State :=
  let pushed := (s.pushWord s.pc).push stacked
  let entered := { pushed with p := entryStatus s.variant pushed.p }
  let target := entered.read16 vector
  { target.2 with pc := target.1 }

/-- `InterruptEntry(vector)` of NMI and IRQ (R414): the stacked copy has B = 0, and the wait of WAI ends. -/
def State.interruptEntry (s : State) (vector : Word) : State :=
  { s.takeException vector (stackedByInterrupt s.p) with waiting := false }

/-- THE RETURN FROM AN EXCEPTION (R323, R419): pull P with U = 1 and B = 0, then PC low, then PC high, with no
adjustment. -/
def State.returnFromException (s : State) : State :=
  let status := s.pull
  let target := { status.2 with p := pulledStatus status.1 }.pullWord
  { target.2 with pc := target.1 }

/-- P after the reset sequence: I and U set, on WDC65C02 D cleared, the others kept (R462). -/
def resetStatus (v : Variant) (p : Byte) : Byte :=
  match v with
  | .nmos => putFlag .u true (putFlag .i true p)
  | .wdc65c02 => putFlag .d false (putFlag .u true (putFlag .i true p))

/-- `ResetSequence()` (R462): nothing is pushed, no memory is written, NMIPending and IRQPending are kept. -/
def State.resetSequence (s : State) : State :=
  let target := s.read16 resetVector
  { target.2 with
    a := 0x00#8
    x := 0x00#8
    y := 0x00#8
    sp := 0xFD#8
    p := resetStatus s.variant s.p
    pc := target.1
    halted := false
    waiting := false
    resetPending := false }

end Sys2Proof.Machine
end

