-- ==== Sys2Proof/Machine/Operands.lean ====
section
/-! DEFINITION. The addressing-mode resolvers (R160 to R178) and the ways a handler uses the resolved address:
reading a byte, storing one, and read-modify-write (R200, R284). The operand bytes are fetched by the driver
(Fetch.lean) before a meaning runs, so a mode carries them and PC is already past them (R12, R160). -/

namespace Sys2Proof.Machine

/-- The addressing modes that have an operand, with the operand bytes (R163 to R175). -/
inductive Mode where
  | imm (v : Byte)
  | zp (o : Byte)
  | zpX (o : Byte)
  | zpY (o : Byte)
  | abs (w : Word)
  | absX (w : Word)
  | absY (w : Word)
  | ind (w : Word)
  | indX (o : Byte)
  | indY (o : Byte)
  | zpInd (o : Byte)
  | absIndX (w : Word)
  | rel (off : Byte)
  deriving DecidableEq, Repr

/-- What a resolver returns: the effective address, the page-cross signal, and the state after its pointer reads
(R160). -/
structure Resolved where
  addr : Word
  crossed : Bool
  st : State
  deriving DecidableEq, Repr

/-- The page-cross signal: the high bytes differ (R177). -/
def pageCrossed (base final : Word) : Bool := hi base != hi final

/-- A resolver that makes no pointer read. -/
def resolvedAt (addr : Word) (crossed : Bool) (s : State) : Resolved :=
  { addr := addr, crossed := crossed, st := s }

/-- The address of the high byte of a zero-page pointer, wrapped in page 0 (R86, R172 to R174). -/
def zpNext (o : Byte) : Word := zext16 (o + 1#8)

/-- The address of the high byte of JMP's pointer: on NMOS it wraps inside the pointer's page, on WDC65C02 it does
not (R171). -/
def indirectNext (v : Variant) (ptr : Word) : Word :=
  if v = .nmos ∧ lo ptr = 0xFF#8 then ptr &&& 0xFF00#16 else ptr + 1#16

/-- The resolvers (R163 to R175, R178). PC is past the operand bytes. -/
def resolve (m : Mode) (s : State) : Resolved :=
  match m with
  | .imm _ => resolvedAt (s.pc - 1#16) false s
  | .zp o => resolvedAt (zext16 o) false s
  | .zpX o => resolvedAt (zext16 (o + s.x)) false s
  | .zpY o => resolvedAt (zext16 (o + s.y)) false s
  | .abs w => resolvedAt w false s
  | .absX w => resolvedAt (w + zext16 s.x) (pageCrossed w (w + zext16 s.x)) s
  | .absY w => resolvedAt (w + zext16 s.y) (pageCrossed w (w + zext16 s.y)) s
  | .ind w =>
    let target := s.readWordAt w (indirectNext s.variant w)
    resolvedAt target.1 false target.2
  | .indX o =>
    let target := s.readWordAt (zext16 (o + s.x)) (zpNext (o + s.x))
    resolvedAt target.1 false target.2
  | .indY o =>
    let base := s.readWordAt (zext16 o) (zpNext o)
    resolvedAt (base.1 + zext16 s.y) (pageCrossed base.1 (base.1 + zext16 s.y)) base.2
  | .zpInd o =>
    let target := s.readWordAt (zext16 o) (zpNext o)
    resolvedAt target.1 false target.2
  | .absIndX w =>
    let target := s.read16 (w + zext16 s.x)
    resolvedAt target.1 false target.2
  | .rel off => resolvedAt (s.pc + sext16 off) (pageCrossed s.pc (s.pc + sext16 off)) s

/-- A byte operand as a handler gets it, with the page-cross signal and the state after the accesses. -/
structure Operand where
  val : Byte
  crossed : Bool
  st : State
  deriving DecidableEq, Repr

/-- The one read of a data operand. In Immediate mode the operand byte is the value and its one read was made when
the driver fetched it (R163, log entry 9); in every other mode the handler reads the resolved address. -/
def loadOperand (m : Mode) (s : State) : Operand :=
  match m with
  | .imm v => { val := v, crossed := false, st := s }
  | m =>
    let r := resolve m s
    { val := (r.st.memRead r.addr).1, crossed := r.crossed, st := (r.st.memRead r.addr).2 }

/-- A store: one write of the resolved address, no read of it, no bonus (R200). -/
def storeByte (m : Mode) (v : Byte) (s : State) : State :=
  let r := resolve m s
  r.st.memWrite r.addr v

/-- A read-modify-write as the handler sees it: the byte read, the page-cross signal, the state after both
accesses. -/
structure Modified where
  old : Byte
  crossed : Bool
  st : State
  deriving DecidableEq, Repr

/-- Read-modify-write (R91, R284): one read, then one write of the same address, always made. -/
def modifyByte (m : Mode) (f : Byte → Byte) (s : State) : Modified :=
  let r := resolve m s
  let old := r.st.memRead r.addr
  { old := old.1, crossed := r.crossed, st := old.2.memWrite r.addr (f old.1) }

/-- ZeroPageRelative (R176): the data address, the branch target and its page-cross signal; PC is `op + 3`. -/
structure BitBranch where
  addr : Word
  target : Word
  crossed : Bool
  deriving DecidableEq, Repr

/-- The resolver of BBRn and BBSn (R176). -/
def resolveZpRel (zp off : Byte) (s : State) : BitBranch :=
  { addr := zext16 zp
    target := s.pc + sext16 off
    crossed := pageCrossed s.pc (s.pc + sext16 off) }

/-- The exits of a taken branch (R330): PC is the target, one cycle, and one more across a page. -/
def takeBranch (target : Word) (crossed : Bool) (s : State) : State :=
  ({ s with pc := target }.charge 1).chargeCross crossed

end Sys2Proof.Machine
end

