-- ==== Sys2Proof/Machine/Arithmetic.lean ====
section
/-! DEFINITION. The meanings of ADC, SBC, CMP, CPX and CPY (43_arithmetic.md), one definition for each opcode over
the adder and the comparison of Flags.lean. D is not consulted (R256). -/

namespace Sys2Proof.Machine

/-- A, C, V, Z and N from a result of the adder (R250, R251). -/
def setSum (r : Sum) (s : State) : State :=
  { s with a := r.res, p := putZN r.res (putFlag .v r.overflow (putFlag .c r.carry s.p)) }

/-- ADC (R250). -/
def adc (m : Mode) (s : State) : State :=
  let o := loadOperand m s
  (setSum (addBytes o.st.a o.val (o.st.flag .c)) o.st).chargeCross o.crossed

/-- SBC (R251). -/
def sbc (m : Mode) (s : State) : State :=
  let o := loadOperand m s
  (setSum (subBytes o.st.a o.val (o.st.flag .c)) o.st).chargeCross o.crossed

/-- CMP (R252). -/
def cmp (m : Mode) (s : State) : State :=
  let o := loadOperand m s
  { o.st with p := compareStatus o.st.a o.val o.st.p }.chargeCross o.crossed

/-- CPX (R253): no mode of it crosses a page and it charges nothing. -/
def cpx (m : Mode) (s : State) : State :=
  let o := loadOperand m s
  { o.st with p := compareStatus o.st.x o.val o.st.p }

/-- CPY (R254). -/
def cpy (m : Mode) (s : State) : State :=
  let o := loadOperand m s
  { o.st with p := compareStatus o.st.y o.val o.st.p }

/-- ADC ($nn,X), opcode 61 (R250, R172). -/
def execAdcIndX (o : Byte) (s : State) : Result := .next (adc (.indX o) s)

/-- ADC $nn, opcode 65 (R250, R165). -/
def execAdcZp (o : Byte) (s : State) : Result := .next (adc (.zp o) s)

/-- ADC #$nn, opcode 69 (R250, R163). -/
def execAdcImm (v : Byte) (s : State) : Result := .next (adc (.imm v) s)

/-- ADC $nnnn, opcode 6D (R250, R168). -/
def execAdcAbs (w : Word) (s : State) : Result := .next (adc (.abs w) s)

/-- ADC ($nn),Y, opcode 71 (R250, R173). -/
def execAdcIndY (o : Byte) (s : State) : Result := .next (adc (.indY o) s)

/-- ADC ($nn), opcode 72 (R250, R174). -/
def execAdcZpInd (o : Byte) (s : State) : Result := .next (adc (.zpInd o) s)

/-- ADC $nn,X, opcode 75 (R250, R166). -/
def execAdcZpX (o : Byte) (s : State) : Result := .next (adc (.zpX o) s)

/-- ADC $nnnn,Y, opcode 79 (R250, R170). -/
def execAdcAbsY (w : Word) (s : State) : Result := .next (adc (.absY w) s)

/-- ADC $nnnn,X, opcode 7D (R250, R169). -/
def execAdcAbsX (w : Word) (s : State) : Result := .next (adc (.absX w) s)

/-- SBC ($nn,X), opcode E1 (R251, R172). -/
def execSbcIndX (o : Byte) (s : State) : Result := .next (sbc (.indX o) s)

/-- SBC $nn, opcode E5 (R251, R165). -/
def execSbcZp (o : Byte) (s : State) : Result := .next (sbc (.zp o) s)

/-- SBC #$nn, opcode E9 (R251, R163). -/
def execSbcImm (v : Byte) (s : State) : Result := .next (sbc (.imm v) s)

/-- SBC $nnnn, opcode ED (R251, R168). -/
def execSbcAbs (w : Word) (s : State) : Result := .next (sbc (.abs w) s)

/-- SBC ($nn),Y, opcode F1 (R251, R173). -/
def execSbcIndY (o : Byte) (s : State) : Result := .next (sbc (.indY o) s)

/-- SBC ($nn), opcode F2 (R251, R174). -/
def execSbcZpInd (o : Byte) (s : State) : Result := .next (sbc (.zpInd o) s)

/-- SBC $nn,X, opcode F5 (R251, R166). -/
def execSbcZpX (o : Byte) (s : State) : Result := .next (sbc (.zpX o) s)

/-- SBC $nnnn,Y, opcode F9 (R251, R170). -/
def execSbcAbsY (w : Word) (s : State) : Result := .next (sbc (.absY w) s)

/-- SBC $nnnn,X, opcode FD (R251, R169). -/
def execSbcAbsX (w : Word) (s : State) : Result := .next (sbc (.absX w) s)

/-- CMP ($nn,X), opcode C1 (R252, R172). -/
def execCmpIndX (o : Byte) (s : State) : Result := .next (cmp (.indX o) s)

/-- CMP $nn, opcode C5 (R252, R165). -/
def execCmpZp (o : Byte) (s : State) : Result := .next (cmp (.zp o) s)

/-- CMP #$nn, opcode C9 (R252, R163). -/
def execCmpImm (v : Byte) (s : State) : Result := .next (cmp (.imm v) s)

/-- CMP $nnnn, opcode CD (R252, R168). -/
def execCmpAbs (w : Word) (s : State) : Result := .next (cmp (.abs w) s)

/-- CMP ($nn),Y, opcode D1 (R252, R173). -/
def execCmpIndY (o : Byte) (s : State) : Result := .next (cmp (.indY o) s)

/-- CMP ($nn), opcode D2 (R252, R174). -/
def execCmpZpInd (o : Byte) (s : State) : Result := .next (cmp (.zpInd o) s)

/-- CMP $nn,X, opcode D5 (R252, R166). -/
def execCmpZpX (o : Byte) (s : State) : Result := .next (cmp (.zpX o) s)

/-- CMP $nnnn,Y, opcode D9 (R252, R170). -/
def execCmpAbsY (w : Word) (s : State) : Result := .next (cmp (.absY w) s)

/-- CMP $nnnn,X, opcode DD (R252, R169). -/
def execCmpAbsX (w : Word) (s : State) : Result := .next (cmp (.absX w) s)

/-- CPX #$nn, opcode E0 (R253, R163). -/
def execCpxImm (v : Byte) (s : State) : Result := .next (cpx (.imm v) s)

/-- CPX $nn, opcode E4 (R253, R165). -/
def execCpxZp (o : Byte) (s : State) : Result := .next (cpx (.zp o) s)

/-- CPX $nnnn, opcode EC (R253, R168). -/
def execCpxAbs (w : Word) (s : State) : Result := .next (cpx (.abs w) s)

/-- CPY #$nn, opcode C0 (R254, R163). -/
def execCpyImm (v : Byte) (s : State) : Result := .next (cpy (.imm v) s)

/-- CPY $nn, opcode C4 (R254, R165). -/
def execCpyZp (o : Byte) (s : State) : Result := .next (cpy (.zp o) s)

/-- CPY $nnnn, opcode CC (R254, R168). -/
def execCpyAbs (w : Word) (s : State) : Result := .next (cpy (.abs w) s)

end Sys2Proof.Machine
end

