-- ==== Sys2Proof/Machine/BitOps.lean ====
section
/-! DEFINITION. The meanings of RMBn, SMBn, BBRn and BBSn (48_bit_ops.md), one definition for each opcode. -/

namespace Sys2Proof.Machine

/-- RMBn (R370): bit n of the zero-page byte cleared, the write always made, no flag. -/
def rmb (n : Nat) (o : Byte) (s : State) : State :=
  (modifyByte (.zp o) (fun v => v &&& ((1#8 <<< n) ^^^ 0xFF#8)) s).st

/-- SMBn (R371). -/
def smb (n : Nat) (o : Byte) (s : State) : State :=
  (modifyByte (.zp o) (fun v => v ||| (1#8 <<< n)) s).st

/-- BBRn and BBSn (R372, R373): one read of the zero-page byte, then the branch when bit n has the sense. -/
def branchOnBit (n : Nat) (sense : Bool) (zp off : Byte) (s : State) : State :=
  let r := resolveZpRel zp off s
  let m := s.memRead r.addr
  if m.1.getLsbD n = sense then takeBranch r.target r.crossed m.2 else m.2

/-- RMB0 $nn, opcode 07 (R370, R165). -/
def execRmb0 (o : Byte) (s : State) : Result := .next (rmb 0 o s)

/-- RMB1 $nn, opcode 17 (R370, R165). -/
def execRmb1 (o : Byte) (s : State) : Result := .next (rmb 1 o s)

/-- RMB2 $nn, opcode 27 (R370, R165). -/
def execRmb2 (o : Byte) (s : State) : Result := .next (rmb 2 o s)

/-- RMB3 $nn, opcode 37 (R370, R165). -/
def execRmb3 (o : Byte) (s : State) : Result := .next (rmb 3 o s)

/-- RMB4 $nn, opcode 47 (R370, R165). -/
def execRmb4 (o : Byte) (s : State) : Result := .next (rmb 4 o s)

/-- RMB5 $nn, opcode 57 (R370, R165). -/
def execRmb5 (o : Byte) (s : State) : Result := .next (rmb 5 o s)

/-- RMB6 $nn, opcode 67 (R370, R165). -/
def execRmb6 (o : Byte) (s : State) : Result := .next (rmb 6 o s)

/-- RMB7 $nn, opcode 77 (R370, R165). -/
def execRmb7 (o : Byte) (s : State) : Result := .next (rmb 7 o s)

/-- SMB0 $nn, opcode 87 (R371, R165). -/
def execSmb0 (o : Byte) (s : State) : Result := .next (smb 0 o s)

/-- SMB1 $nn, opcode 97 (R371, R165). -/
def execSmb1 (o : Byte) (s : State) : Result := .next (smb 1 o s)

/-- SMB2 $nn, opcode A7 (R371, R165). -/
def execSmb2 (o : Byte) (s : State) : Result := .next (smb 2 o s)

/-- SMB3 $nn, opcode B7 (R371, R165). -/
def execSmb3 (o : Byte) (s : State) : Result := .next (smb 3 o s)

/-- SMB4 $nn, opcode C7 (R371, R165). -/
def execSmb4 (o : Byte) (s : State) : Result := .next (smb 4 o s)

/-- SMB5 $nn, opcode D7 (R371, R165). -/
def execSmb5 (o : Byte) (s : State) : Result := .next (smb 5 o s)

/-- SMB6 $nn, opcode E7 (R371, R165). -/
def execSmb6 (o : Byte) (s : State) : Result := .next (smb 6 o s)

/-- SMB7 $nn, opcode F7 (R371, R165). -/
def execSmb7 (o : Byte) (s : State) : Result := .next (smb 7 o s)

/-- BBR0 $nn,label, opcode 0F (R372, R176). -/
def execBbr0 (zp : Byte) (off : Byte) (s : State) : Result := .next (branchOnBit 0 false zp off s)

/-- BBR1 $nn,label, opcode 1F (R372, R176). -/
def execBbr1 (zp : Byte) (off : Byte) (s : State) : Result := .next (branchOnBit 1 false zp off s)

/-- BBR2 $nn,label, opcode 2F (R372, R176). -/
def execBbr2 (zp : Byte) (off : Byte) (s : State) : Result := .next (branchOnBit 2 false zp off s)

/-- BBR3 $nn,label, opcode 3F (R372, R176). -/
def execBbr3 (zp : Byte) (off : Byte) (s : State) : Result := .next (branchOnBit 3 false zp off s)

/-- BBR4 $nn,label, opcode 4F (R372, R176). -/
def execBbr4 (zp : Byte) (off : Byte) (s : State) : Result := .next (branchOnBit 4 false zp off s)

/-- BBR5 $nn,label, opcode 5F (R372, R176). -/
def execBbr5 (zp : Byte) (off : Byte) (s : State) : Result := .next (branchOnBit 5 false zp off s)

/-- BBR6 $nn,label, opcode 6F (R372, R176). -/
def execBbr6 (zp : Byte) (off : Byte) (s : State) : Result := .next (branchOnBit 6 false zp off s)

/-- BBR7 $nn,label, opcode 7F (R372, R176). -/
def execBbr7 (zp : Byte) (off : Byte) (s : State) : Result := .next (branchOnBit 7 false zp off s)

/-- BBS0 $nn,label, opcode 8F (R373, R176). -/
def execBbs0 (zp : Byte) (off : Byte) (s : State) : Result := .next (branchOnBit 0 true zp off s)

/-- BBS1 $nn,label, opcode 9F (R373, R176). -/
def execBbs1 (zp : Byte) (off : Byte) (s : State) : Result := .next (branchOnBit 1 true zp off s)

/-- BBS2 $nn,label, opcode AF (R373, R176). -/
def execBbs2 (zp : Byte) (off : Byte) (s : State) : Result := .next (branchOnBit 2 true zp off s)

/-- BBS3 $nn,label, opcode BF (R373, R176). -/
def execBbs3 (zp : Byte) (off : Byte) (s : State) : Result := .next (branchOnBit 3 true zp off s)

/-- BBS4 $nn,label, opcode CF (R373, R176). -/
def execBbs4 (zp : Byte) (off : Byte) (s : State) : Result := .next (branchOnBit 4 true zp off s)

/-- BBS5 $nn,label, opcode DF (R373, R176). -/
def execBbs5 (zp : Byte) (off : Byte) (s : State) : Result := .next (branchOnBit 5 true zp off s)

/-- BBS6 $nn,label, opcode EF (R373, R176). -/
def execBbs6 (zp : Byte) (off : Byte) (s : State) : Result := .next (branchOnBit 6 true zp off s)

/-- BBS7 $nn,label, opcode FF (R373, R176). -/
def execBbs7 (zp : Byte) (off : Byte) (s : State) : Result := .next (branchOnBit 7 true zp off s)

end Sys2Proof.Machine
end

