-- ==== Sys2Proof/Machine/Control.lean ====
section
/-! DEFINITION. The meanings of WAI, STP and the 44 reserved opcodes of WDC65C02 (49_cpu_control_illegal.md), one
definition for each opcode. The wait itself, the halted state and the undefined bytes of NMOS are the
driver's. -/

namespace Sys2Proof.Machine

/-- A reserved opcode with operand bytes (R394, D8): the driver has read them; the mode rule runs and its result is
discarded; nothing else is accessed. -/
def discardOperand (m : Mode) (s : State) : State := (resolve m s).st

/-- Reserved NOP, opcode 02 (R394, R163). -/
def execNop02 (v : Byte) (s : State) : Result := .next (discardOperand (.imm v) s)

/-- Reserved NOP, opcode 22 (R394, R163). -/
def execNop22 (v : Byte) (s : State) : Result := .next (discardOperand (.imm v) s)

/-- Reserved NOP, opcode 42 (R394, R163). -/
def execNop42 (v : Byte) (s : State) : Result := .next (discardOperand (.imm v) s)

/-- Reserved NOP, opcode 44 (R394, R165). -/
def execNop44 (o : Byte) (s : State) : Result := .next (discardOperand (.zp o) s)

/-- Reserved NOP, opcode 54 (R394, R166). -/
def execNop54 (o : Byte) (s : State) : Result := .next (discardOperand (.zpX o) s)

/-- Reserved NOP, opcode 5C (R394, R168). -/
def execNop5C (w : Word) (s : State) : Result := .next (discardOperand (.abs w) s)

/-- Reserved NOP, opcode 62 (R394, R163). -/
def execNop62 (v : Byte) (s : State) : Result := .next (discardOperand (.imm v) s)

/-- Reserved NOP, opcode 82 (R394, R163). -/
def execNop82 (v : Byte) (s : State) : Result := .next (discardOperand (.imm v) s)

/-- Reserved NOP, opcode C2 (R394, R163). -/
def execNopC2 (v : Byte) (s : State) : Result := .next (discardOperand (.imm v) s)

/-- Reserved NOP, opcode D4 (R394, R166). -/
def execNopD4 (o : Byte) (s : State) : Result := .next (discardOperand (.zpX o) s)

/-- Reserved NOP, opcode DC (R394, R168). -/
def execNopDC (w : Word) (s : State) : Result := .next (discardOperand (.abs w) s)

/-- Reserved NOP, opcode E2 (R394, R163). -/
def execNopE2 (v : Byte) (s : State) : Result := .next (discardOperand (.imm v) s)

/-- Reserved NOP, opcode F4 (R394, R166). -/
def execNopF4 (o : Byte) (s : State) : Result := .next (discardOperand (.zpX o) s)

/-- Reserved NOP, opcode FC (R394, R168). -/
def execNopFC (w : Word) (s : State) : Result := .next (discardOperand (.abs w) s)

/-- WAI, opcode CB (R390, R161). -/
def execWai (s : State) : Result := .next ({ s with waiting := true })

/-- STP, opcode DB (R392, R161). -/
def execStp (s : State) : Result := .next ({ s with halted := true })

/-- Reserved NOP, opcode 03 (R394, R161). -/
def execNop03 (s : State) : Result := .next s

/-- Reserved NOP, opcode 0B (R394, R161). -/
def execNop0B (s : State) : Result := .next s

/-- Reserved NOP, opcode 13 (R394, R161). -/
def execNop13 (s : State) : Result := .next s

/-- Reserved NOP, opcode 1B (R394, R161). -/
def execNop1B (s : State) : Result := .next s

/-- Reserved NOP, opcode 23 (R394, R161). -/
def execNop23 (s : State) : Result := .next s

/-- Reserved NOP, opcode 2B (R394, R161). -/
def execNop2B (s : State) : Result := .next s

/-- Reserved NOP, opcode 33 (R394, R161). -/
def execNop33 (s : State) : Result := .next s

/-- Reserved NOP, opcode 3B (R394, R161). -/
def execNop3B (s : State) : Result := .next s

/-- Reserved NOP, opcode 43 (R394, R161). -/
def execNop43 (s : State) : Result := .next s

/-- Reserved NOP, opcode 4B (R394, R161). -/
def execNop4B (s : State) : Result := .next s

/-- Reserved NOP, opcode 53 (R394, R161). -/
def execNop53 (s : State) : Result := .next s

/-- Reserved NOP, opcode 5B (R394, R161). -/
def execNop5B (s : State) : Result := .next s

/-- Reserved NOP, opcode 63 (R394, R161). -/
def execNop63 (s : State) : Result := .next s

/-- Reserved NOP, opcode 6B (R394, R161). -/
def execNop6B (s : State) : Result := .next s

/-- Reserved NOP, opcode 73 (R394, R161). -/
def execNop73 (s : State) : Result := .next s

/-- Reserved NOP, opcode 7B (R394, R161). -/
def execNop7B (s : State) : Result := .next s

/-- Reserved NOP, opcode 83 (R394, R161). -/
def execNop83 (s : State) : Result := .next s

/-- Reserved NOP, opcode 8B (R394, R161). -/
def execNop8B (s : State) : Result := .next s

/-- Reserved NOP, opcode 93 (R394, R161). -/
def execNop93 (s : State) : Result := .next s

/-- Reserved NOP, opcode 9B (R394, R161). -/
def execNop9B (s : State) : Result := .next s

/-- Reserved NOP, opcode A3 (R394, R161). -/
def execNopA3 (s : State) : Result := .next s

/-- Reserved NOP, opcode AB (R394, R161). -/
def execNopAB (s : State) : Result := .next s

/-- Reserved NOP, opcode B3 (R394, R161). -/
def execNopB3 (s : State) : Result := .next s

/-- Reserved NOP, opcode BB (R394, R161). -/
def execNopBB (s : State) : Result := .next s

/-- Reserved NOP, opcode C3 (R394, R161). -/
def execNopC3 (s : State) : Result := .next s

/-- Reserved NOP, opcode D3 (R394, R161). -/
def execNopD3 (s : State) : Result := .next s

/-- Reserved NOP, opcode E3 (R394, R161). -/
def execNopE3 (s : State) : Result := .next s

/-- Reserved NOP, opcode EB (R394, R161). -/
def execNopEB (s : State) : Result := .next s

/-- Reserved NOP, opcode F3 (R394, R161). -/
def execNopF3 (s : State) : Result := .next s

/-- Reserved NOP, opcode FB (R394, R161). -/
def execNopFB (s : State) : Result := .next s

end Sys2Proof.Machine
end

