-- ==== Sys2Proof/Machine/FlagNop.lean ====
section
/-! DEFINITION. The meanings of the flag instructions and of NOP (47_flag_ops_nop.md), one definition for each
opcode. -/

namespace Sys2Proof.Machine

/-- CLC, opcode 18 (R350, R161). -/
def execClc (s : State) : Result := .next (s.setFlag .c false)

/-- SEC, opcode 38 (R351, R161). -/
def execSec (s : State) : Result := .next (s.setFlag .c true)

/-- CLI, opcode 58 (R352, R161). -/
def execCli (s : State) : Result := .next (s.setFlag .i false)

/-- SEI, opcode 78 (R353, R161). -/
def execSei (s : State) : Result := .next (s.setFlag .i true)

/-- CLD, opcode D8 (R354, R161). -/
def execCld (s : State) : Result := .next (s.setFlag .d false)

/-- SED, opcode F8 (R355, R161). -/
def execSed (s : State) : Result := .next (s.setFlag .d true)

/-- CLV, opcode B8 (R356, R161). -/
def execClv (s : State) : Result := .next (s.setFlag .v false)

/-- NOP, opcode EA (R357, R161). -/
def execNop (s : State) : Result := .next s

end Sys2Proof.Machine
end

