-- ==== Sys2Proof/Machine/TransferStack.lean ====
section
/-! DEFINITION. The meanings of the register transfers, pushes and pulls (42_transfer_stack.md), one definition
for each opcode. -/

namespace Sys2Proof.Machine

/-- A written, with Z and N from the value: the shape of TXA, TYA and PLA (R222, R223, R234). -/
def setA (v : Byte) (s : State) : State := { s with a := v }.setZN v

/-- X written, with Z and N from the value: TAX, TSX, PLX, INX, DEX (R220, R224, R235, R272, R273). -/
def setX (v : Byte) (s : State) : State := { s with x := v }.setZN v

/-- Y written, with Z and N from the value: TAY, PLY, INY, DEY (R221, R236, R274, R275). -/
def setY (v : Byte) (s : State) : State := { s with y := v }.setZN v

/-- TAX, opcode AA (R220, R161). -/
def execTax (s : State) : Result := .next (setX s.a s)

/-- TAY, opcode A8 (R221, R161). -/
def execTay (s : State) : Result := .next (setY s.a s)

/-- TXA, opcode 8A (R222, R161). -/
def execTxa (s : State) : Result := .next (setA s.x s)

/-- TYA, opcode 98 (R223, R161). -/
def execTya (s : State) : Result := .next (setA s.y s)

/-- TSX, opcode BA (R224, R161). -/
def execTsx (s : State) : Result := .next (setX s.sp s)

/-- TXS, opcode 9A (R225, R161). -/
def execTxs (s : State) : Result := .next ({ s with sp := s.x })

/-- PHA, opcode 48 (R230, R161). -/
def execPha (s : State) : Result := .next (s.push s.a)

/-- PHX, opcode DA (R231, R161). -/
def execPhx (s : State) : Result := .next (s.push s.x)

/-- PHY, opcode 5A (R232, R161). -/
def execPhy (s : State) : Result := .next (s.push s.y)

/-- PHP, opcode 08 (R233, R161). -/
def execPhp (s : State) : Result := .next (s.push (stackedByBrk s.p))

/-- PLA, opcode 68 (R234, R161). -/
def execPla (s : State) : Result := .next (setA s.pull.1 s.pull.2)

/-- PLX, opcode FA (R235, R161). -/
def execPlx (s : State) : Result := .next (setX s.pull.1 s.pull.2)

/-- PLY, opcode 7A (R236, R161). -/
def execPly (s : State) : Result := .next (setY s.pull.1 s.pull.2)

/-- PLP, opcode 28 (R237, R161). -/
def execPlp (s : State) : Result := .next ({ s.pull.2 with p := pulledStatus s.pull.1 })

end Sys2Proof.Machine
end

