-- ==== Sys2Proof/Machine/IncDecShift.lean ====
section
/-! DEFINITION. The meanings of the increments, decrements, shifts and rotates (44_incdec_shift.md), one
definition for each opcode. -/

namespace Sys2Proof.Machine

/-- INC on memory (R270, R284): no bonus in any form. -/
def incMem (m : Mode) (s : State) : State :=
  let r := modifyByte m (fun v => v + 1#8) s
  r.st.setZN (r.old + 1#8)

/-- DEC on memory (R271, R284). -/
def decMem (m : Mode) (s : State) : State :=
  let r := modifyByte m (fun v => v - 1#8) s
  r.st.setZN (r.old - 1#8)

/-- INC A (R276). -/
def incAcc (s : State) : State := { s with a := s.a + 1#8 }.setZN (s.a + 1#8)

/-- DEC A (R277). -/
def decAcc (s : State) : State := { s with a := s.a - 1#8 }.setZN (s.a - 1#8)

/-- A shift or rotate of A (R280 to R283). -/
def shiftAcc (op : ShiftOp) (s : State) : State :=
  let r := shiftByte op (s.flag .c) s.a
  { s with a := r.res, p := shiftStatus r s.p }

/-- A shift or rotate of memory (R280 to R284): on WDC65C02 a page cross, which only AbsoluteX reports, costs one
more cycle; on NMOS none does. -/
def shiftMem (op : ShiftOp) (m : Mode) (s : State) : State :=
  let c := s.flag .c
  let r := modifyByte m (fun v => (shiftByte op c v).res) s
  { r.st with p := shiftStatus (shiftByte op c r.old) r.st.p }.chargeCross
    (r.crossed && decide (s.variant = Variant.wdc65c02))

/-- INC A, opcode 1A (R276, R162). -/
def execIncA (s : State) : Result := .next (incAcc s)

/-- INC $nn, opcode E6 (R270, R165). -/
def execIncZp (o : Byte) (s : State) : Result := .next (incMem (.zp o) s)

/-- INC $nnnn, opcode EE (R270, R168). -/
def execIncAbs (w : Word) (s : State) : Result := .next (incMem (.abs w) s)

/-- INC $nn,X, opcode F6 (R270, R166). -/
def execIncZpX (o : Byte) (s : State) : Result := .next (incMem (.zpX o) s)

/-- INC $nnnn,X, opcode FE (R270, R169). -/
def execIncAbsX (w : Word) (s : State) : Result := .next (incMem (.absX w) s)

/-- DEC A, opcode 3A (R277, R162). -/
def execDecA (s : State) : Result := .next (decAcc s)

/-- DEC $nn, opcode C6 (R271, R165). -/
def execDecZp (o : Byte) (s : State) : Result := .next (decMem (.zp o) s)

/-- DEC $nnnn, opcode CE (R271, R168). -/
def execDecAbs (w : Word) (s : State) : Result := .next (decMem (.abs w) s)

/-- DEC $nn,X, opcode D6 (R271, R166). -/
def execDecZpX (o : Byte) (s : State) : Result := .next (decMem (.zpX o) s)

/-- DEC $nnnn,X, opcode DE (R271, R169). -/
def execDecAbsX (w : Word) (s : State) : Result := .next (decMem (.absX w) s)

/-- INX, opcode E8 (R272, R161). -/
def execInx (s : State) : Result := .next (setX (s.x + 1#8) s)

/-- DEX, opcode CA (R273, R161). -/
def execDex (s : State) : Result := .next (setX (s.x - 1#8) s)

/-- INY, opcode C8 (R274, R161). -/
def execIny (s : State) : Result := .next (setY (s.y + 1#8) s)

/-- DEY, opcode 88 (R275, R161). -/
def execDey (s : State) : Result := .next (setY (s.y - 1#8) s)

/-- ASL $nn, opcode 06 (R280, R165). -/
def execAslZp (o : Byte) (s : State) : Result := .next (shiftMem .asl (.zp o) s)

/-- ASL A, opcode 0A (R280, R162). -/
def execAslA (s : State) : Result := .next (shiftAcc .asl s)

/-- ASL $nnnn, opcode 0E (R280, R168). -/
def execAslAbs (w : Word) (s : State) : Result := .next (shiftMem .asl (.abs w) s)

/-- ASL $nn,X, opcode 16 (R280, R166). -/
def execAslZpX (o : Byte) (s : State) : Result := .next (shiftMem .asl (.zpX o) s)

/-- ASL $nnnn,X, opcode 1E (R280, R169). -/
def execAslAbsX (w : Word) (s : State) : Result := .next (shiftMem .asl (.absX w) s)

/-- LSR $nn, opcode 46 (R281, R165). -/
def execLsrZp (o : Byte) (s : State) : Result := .next (shiftMem .lsr (.zp o) s)

/-- LSR A, opcode 4A (R281, R162). -/
def execLsrA (s : State) : Result := .next (shiftAcc .lsr s)

/-- LSR $nnnn, opcode 4E (R281, R168). -/
def execLsrAbs (w : Word) (s : State) : Result := .next (shiftMem .lsr (.abs w) s)

/-- LSR $nn,X, opcode 56 (R281, R166). -/
def execLsrZpX (o : Byte) (s : State) : Result := .next (shiftMem .lsr (.zpX o) s)

/-- LSR $nnnn,X, opcode 5E (R281, R169). -/
def execLsrAbsX (w : Word) (s : State) : Result := .next (shiftMem .lsr (.absX w) s)

/-- ROL $nn, opcode 26 (R282, R165). -/
def execRolZp (o : Byte) (s : State) : Result := .next (shiftMem .rol (.zp o) s)

/-- ROL A, opcode 2A (R282, R162). -/
def execRolA (s : State) : Result := .next (shiftAcc .rol s)

/-- ROL $nnnn, opcode 2E (R282, R168). -/
def execRolAbs (w : Word) (s : State) : Result := .next (shiftMem .rol (.abs w) s)

/-- ROL $nn,X, opcode 36 (R282, R166). -/
def execRolZpX (o : Byte) (s : State) : Result := .next (shiftMem .rol (.zpX o) s)

/-- ROL $nnnn,X, opcode 3E (R282, R169). -/
def execRolAbsX (w : Word) (s : State) : Result := .next (shiftMem .rol (.absX w) s)

/-- ROR $nn, opcode 66 (R283, R165). -/
def execRorZp (o : Byte) (s : State) : Result := .next (shiftMem .ror (.zp o) s)

/-- ROR A, opcode 6A (R283, R162). -/
def execRorA (s : State) : Result := .next (shiftAcc .ror s)

/-- ROR $nnnn, opcode 6E (R283, R168). -/
def execRorAbs (w : Word) (s : State) : Result := .next (shiftMem .ror (.abs w) s)

/-- ROR $nn,X, opcode 76 (R283, R166). -/
def execRorZpX (o : Byte) (s : State) : Result := .next (shiftMem .ror (.zpX o) s)

/-- ROR $nnnn,X, opcode 7E (R283, R169). -/
def execRorAbsX (w : Word) (s : State) : Result := .next (shiftMem .ror (.absX w) s)

end Sys2Proof.Machine
end

