-- ==== Sys2Proof/Machine/JumpBranch.lean ====
section
/-! DEFINITION. The meanings of jumps, calls, returns, BRK and the branches (46_jump_branch_call.md), one definition
for each opcode. -/

namespace Sys2Proof.Machine

/-- JMP (R320). -/
def jmp (m : Mode) (s : State) : State :=
  let r := resolve m s
  { r.st with pc := r.addr }

/-- JSR (R321): PC is `op + 3`, the word pushed is `op + 2`. -/
def jsr (m : Mode) (s : State) : State :=
  let r := resolve m s
  { r.st.pushWord (r.st.pc - 1#16) with pc := r.addr }

/-- RTS (R322). -/
def rts (s : State) : State := { s.pullWord.2 with pc := s.pullWord.1 + 1#16 }

/-- BRK (R324): PC past the padding byte, which is not read, then the exception. -/
def brk (s : State) : State :=
  { s with pc := s.pc + 1#16 }.takeException irqVector (stackedByBrk s.p)

/-- The common rule of the conditional branches (R330): taken when the flag has the sense the mnemonic tests. -/
def branchIf (f : Flag) (sense : Bool) (off : Byte) (s : State) : State :=
  let r := resolve (.rel off) s
  if s.flag f = sense then takeBranch r.addr r.crossed r.st else r.st

/-- BRA (R339, C11): its base count holds the taken cycle, so only the page cross is charged here. -/
def branchAlways (off : Byte) (s : State) : State :=
  let r := resolve (.rel off) s
  { r.st with pc := r.addr }.chargeCross r.crossed

/-- JMP $nnnn, opcode 4C (R320, R168). -/
def execJmpAbs (w : Word) (s : State) : Result := .next (jmp (.abs w) s)

/-- JMP ($nnnn), opcode 6C (R320, R171). -/
def execJmpInd (w : Word) (s : State) : Result := .next (jmp (.ind w) s)

/-- JMP ($nnnn,X), opcode 7C (R320, R175). -/
def execJmpAbsIndX (w : Word) (s : State) : Result := .next (jmp (.absIndX w) s)

/-- JSR $nnnn, opcode 20 (R321, R168). -/
def execJsr (w : Word) (s : State) : Result := .next (jsr (.abs w) s)

/-- RTS, opcode 60 (R322, R161). -/
def execRts (s : State) : Result := .next (rts s)

/-- RTI, opcode 40 (R323, R161). -/
def execRti (s : State) : Result := .next (s.returnFromException)

/-- BRK, opcode 00 (R324, R161). -/
def execBrk (s : State) : Result := .next (brk s)

/-- BCC label, opcode 90 (R331, R164). -/
def execBcc (off : Byte) (s : State) : Result := .next (branchIf .c false off s)

/-- BCS label, opcode B0 (R332, R164). -/
def execBcs (off : Byte) (s : State) : Result := .next (branchIf .c true off s)

/-- BEQ label, opcode F0 (R333, R164). -/
def execBeq (off : Byte) (s : State) : Result := .next (branchIf .z true off s)

/-- BNE label, opcode D0 (R334, R164). -/
def execBne (off : Byte) (s : State) : Result := .next (branchIf .z false off s)

/-- BMI label, opcode 30 (R335, R164). -/
def execBmi (off : Byte) (s : State) : Result := .next (branchIf .n true off s)

/-- BPL label, opcode 10 (R336, R164). -/
def execBpl (off : Byte) (s : State) : Result := .next (branchIf .n false off s)

/-- BVC label, opcode 50 (R337, R164). -/
def execBvc (off : Byte) (s : State) : Result := .next (branchIf .v false off s)

/-- BVS label, opcode 70 (R338, R164). -/
def execBvs (off : Byte) (s : State) : Result := .next (branchIf .v true off s)

/-- BRA label, opcode 80 (R339, R164). -/
def execBra (off : Byte) (s : State) : Result := .next (branchAlways off s)

end Sys2Proof.Machine
end

