-- ==== Sys2Proof/Machine/LoadStore.lean ====
section
/-! DEFINITION. The meanings of LDA, LDX, LDY, STA, STX, STY and STZ (41_load_store.md), one definition for
each opcode over the shared load and store operations. -/

namespace Sys2Proof.Machine

/-- LDA after its resolver: A, then Z and N, then the page-cross bonus (R201). -/
def lda (m : Mode) (s : State) : State :=
  let o := loadOperand m s
  ({ o.st with a := o.val }.setZN o.val).chargeCross o.crossed

/-- LDX (R202). -/
def ldx (m : Mode) (s : State) : State :=
  let o := loadOperand m s
  ({ o.st with x := o.val }.setZN o.val).chargeCross o.crossed

/-- LDY (R203). -/
def ldy (m : Mode) (s : State) : State :=
  let o := loadOperand m s
  ({ o.st with y := o.val }.setZN o.val).chargeCross o.crossed

/-- STA (R204). -/
def sta (m : Mode) (s : State) : State := storeByte m s.a s

/-- STX (R205). -/
def stx (m : Mode) (s : State) : State := storeByte m s.x s

/-- STY (R206). -/
def sty (m : Mode) (s : State) : State := storeByte m s.y s

/-- STZ (R207). -/
def stz (m : Mode) (s : State) : State := storeByte m 0x00#8 s

/-- LDA ($nn,X), opcode A1 (R201, R172). -/
def execLdaIndX (o : Byte) (s : State) : Result := .next (lda (.indX o) s)

/-- LDA $nn, opcode A5 (R201, R165). -/
def execLdaZp (o : Byte) (s : State) : Result := .next (lda (.zp o) s)

/-- LDA #$nn, opcode A9 (R201, R163). -/
def execLdaImm (v : Byte) (s : State) : Result := .next (lda (.imm v) s)

/-- LDA $nnnn, opcode AD (R201, R168). -/
def execLdaAbs (w : Word) (s : State) : Result := .next (lda (.abs w) s)

/-- LDA ($nn),Y, opcode B1 (R201, R173). -/
def execLdaIndY (o : Byte) (s : State) : Result := .next (lda (.indY o) s)

/-- LDA ($nn), opcode B2 (R201, R174). -/
def execLdaZpInd (o : Byte) (s : State) : Result := .next (lda (.zpInd o) s)

/-- LDA $nn,X, opcode B5 (R201, R166). -/
def execLdaZpX (o : Byte) (s : State) : Result := .next (lda (.zpX o) s)

/-- LDA $nnnn,Y, opcode B9 (R201, R170). -/
def execLdaAbsY (w : Word) (s : State) : Result := .next (lda (.absY w) s)

/-- LDA $nnnn,X, opcode BD (R201, R169). -/
def execLdaAbsX (w : Word) (s : State) : Result := .next (lda (.absX w) s)

/-- LDX #$nn, opcode A2 (R202, R163). -/
def execLdxImm (v : Byte) (s : State) : Result := .next (ldx (.imm v) s)

/-- LDX $nn, opcode A6 (R202, R165). -/
def execLdxZp (o : Byte) (s : State) : Result := .next (ldx (.zp o) s)

/-- LDX $nnnn, opcode AE (R202, R168). -/
def execLdxAbs (w : Word) (s : State) : Result := .next (ldx (.abs w) s)

/-- LDX $nn,Y, opcode B6 (R202, R167). -/
def execLdxZpY (o : Byte) (s : State) : Result := .next (ldx (.zpY o) s)

/-- LDX $nnnn,Y, opcode BE (R202, R170). -/
def execLdxAbsY (w : Word) (s : State) : Result := .next (ldx (.absY w) s)

/-- LDY #$nn, opcode A0 (R203, R163). -/
def execLdyImm (v : Byte) (s : State) : Result := .next (ldy (.imm v) s)

/-- LDY $nn, opcode A4 (R203, R165). -/
def execLdyZp (o : Byte) (s : State) : Result := .next (ldy (.zp o) s)

/-- LDY $nnnn, opcode AC (R203, R168). -/
def execLdyAbs (w : Word) (s : State) : Result := .next (ldy (.abs w) s)

/-- LDY $nn,X, opcode B4 (R203, R166). -/
def execLdyZpX (o : Byte) (s : State) : Result := .next (ldy (.zpX o) s)

/-- LDY $nnnn,X, opcode BC (R203, R169). -/
def execLdyAbsX (w : Word) (s : State) : Result := .next (ldy (.absX w) s)

/-- STA ($nn,X), opcode 81 (R204, R172). -/
def execStaIndX (o : Byte) (s : State) : Result := .next (sta (.indX o) s)

/-- STA $nn, opcode 85 (R204, R165). -/
def execStaZp (o : Byte) (s : State) : Result := .next (sta (.zp o) s)

/-- STA $nnnn, opcode 8D (R204, R168). -/
def execStaAbs (w : Word) (s : State) : Result := .next (sta (.abs w) s)

/-- STA ($nn),Y, opcode 91 (R204, R173). -/
def execStaIndY (o : Byte) (s : State) : Result := .next (sta (.indY o) s)

/-- STA ($nn), opcode 92 (R204, R174). -/
def execStaZpInd (o : Byte) (s : State) : Result := .next (sta (.zpInd o) s)

/-- STA $nn,X, opcode 95 (R204, R166). -/
def execStaZpX (o : Byte) (s : State) : Result := .next (sta (.zpX o) s)

/-- STA $nnnn,Y, opcode 99 (R204, R170). -/
def execStaAbsY (w : Word) (s : State) : Result := .next (sta (.absY w) s)

/-- STA $nnnn,X, opcode 9D (R204, R169). -/
def execStaAbsX (w : Word) (s : State) : Result := .next (sta (.absX w) s)

/-- STX $nn, opcode 86 (R205, R165). -/
def execStxZp (o : Byte) (s : State) : Result := .next (stx (.zp o) s)

/-- STX $nnnn, opcode 8E (R205, R168). -/
def execStxAbs (w : Word) (s : State) : Result := .next (stx (.abs w) s)

/-- STX $nn,Y, opcode 96 (R205, R167). -/
def execStxZpY (o : Byte) (s : State) : Result := .next (stx (.zpY o) s)

/-- STY $nn, opcode 84 (R206, R165). -/
def execStyZp (o : Byte) (s : State) : Result := .next (sty (.zp o) s)

/-- STY $nnnn, opcode 8C (R206, R168). -/
def execStyAbs (w : Word) (s : State) : Result := .next (sty (.abs w) s)

/-- STY $nn,X, opcode 94 (R206, R166). -/
def execStyZpX (o : Byte) (s : State) : Result := .next (sty (.zpX o) s)

/-- STZ $nn, opcode 64 (R207, R165). -/
def execStzZp (o : Byte) (s : State) : Result := .next (stz (.zp o) s)

/-- STZ $nn,X, opcode 74 (R207, R166). -/
def execStzZpX (o : Byte) (s : State) : Result := .next (stz (.zpX o) s)

/-- STZ $nnnn, opcode 9C (R207, R168). -/
def execStzAbs (w : Word) (s : State) : Result := .next (stz (.abs w) s)

/-- STZ $nnnn,X, opcode 9E (R207, R169). -/
def execStzAbsX (w : Word) (s : State) : Result := .next (stz (.absX w) s)

end Sys2Proof.Machine
end

