-- ==== Sys2Proof/Machine/Logic.lean ====
section
/-! DEFINITION. The meanings of AND, ORA, EOR, BIT, TSB and TRB (45_logic.md), one definition for each opcode. -/

namespace Sys2Proof.Machine

/-- AND (R300). -/
def andA (m : Mode) (s : State) : State :=
  let o := loadOperand m s
  ({ o.st with a := o.st.a &&& o.val }.setZN (o.st.a &&& o.val)).chargeCross o.crossed

/-- ORA (R301). -/
def oraA (m : Mode) (s : State) : State :=
  let o := loadOperand m s
  ({ o.st with a := o.st.a ||| o.val }.setZN (o.st.a ||| o.val)).chargeCross o.crossed

/-- EOR (R302). -/
def eorA (m : Mode) (s : State) : State :=
  let o := loadOperand m s
  ({ o.st with a := o.st.a ^^^ o.val }.setZN (o.st.a ^^^ o.val)).chargeCross o.crossed

/-- P after BIT: Z from `A AND M`; N and V are bits 7 and 6 of M, but in Immediate mode they stay (R303). -/
def bitStatus (m : Mode) (a v p : Byte) : Byte :=
  let zed := putFlag .z ((a &&& v) == 0x00#8) p
  match m with
  | .imm _ => zed
  | _ => putFlag .v (v.getLsbD 6) (putFlag .n (v.getLsbD 7) zed)

/-- BIT (R303). -/
def bitTest (m : Mode) (s : State) : State :=
  let o := loadOperand m s
  { o.st with p := bitStatus m o.st.a o.val o.st.p }.chargeCross o.crossed

/-- TSB (R304): Z from the byte read, before it is changed. -/
def tsb (m : Mode) (s : State) : State :=
  let r := modifyByte m (fun v => v ||| s.a) s
  r.st.setFlag .z ((s.a &&& r.old) == 0x00#8)

/-- TRB (R305). -/
def trb (m : Mode) (s : State) : State :=
  let r := modifyByte m (fun v => v &&& (s.a ^^^ 0xFF#8)) s
  r.st.setFlag .z ((s.a &&& r.old) == 0x00#8)

/-- AND ($nn,X), opcode 21 (R300, R172). -/
def execAndIndX (o : Byte) (s : State) : Result := .next (andA (.indX o) s)

/-- AND $nn, opcode 25 (R300, R165). -/
def execAndZp (o : Byte) (s : State) : Result := .next (andA (.zp o) s)

/-- AND #$nn, opcode 29 (R300, R163). -/
def execAndImm (v : Byte) (s : State) : Result := .next (andA (.imm v) s)

/-- AND $nnnn, opcode 2D (R300, R168). -/
def execAndAbs (w : Word) (s : State) : Result := .next (andA (.abs w) s)

/-- AND ($nn),Y, opcode 31 (R300, R173). -/
def execAndIndY (o : Byte) (s : State) : Result := .next (andA (.indY o) s)

/-- AND ($nn), opcode 32 (R300, R174). -/
def execAndZpInd (o : Byte) (s : State) : Result := .next (andA (.zpInd o) s)

/-- AND $nn,X, opcode 35 (R300, R166). -/
def execAndZpX (o : Byte) (s : State) : Result := .next (andA (.zpX o) s)

/-- AND $nnnn,Y, opcode 39 (R300, R170). -/
def execAndAbsY (w : Word) (s : State) : Result := .next (andA (.absY w) s)

/-- AND $nnnn,X, opcode 3D (R300, R169). -/
def execAndAbsX (w : Word) (s : State) : Result := .next (andA (.absX w) s)

/-- ORA ($nn,X), opcode 01 (R301, R172). -/
def execOraIndX (o : Byte) (s : State) : Result := .next (oraA (.indX o) s)

/-- ORA $nn, opcode 05 (R301, R165). -/
def execOraZp (o : Byte) (s : State) : Result := .next (oraA (.zp o) s)

/-- ORA #$nn, opcode 09 (R301, R163). -/
def execOraImm (v : Byte) (s : State) : Result := .next (oraA (.imm v) s)

/-- ORA $nnnn, opcode 0D (R301, R168). -/
def execOraAbs (w : Word) (s : State) : Result := .next (oraA (.abs w) s)

/-- ORA ($nn),Y, opcode 11 (R301, R173). -/
def execOraIndY (o : Byte) (s : State) : Result := .next (oraA (.indY o) s)

/-- ORA ($nn), opcode 12 (R301, R174). -/
def execOraZpInd (o : Byte) (s : State) : Result := .next (oraA (.zpInd o) s)

/-- ORA $nn,X, opcode 15 (R301, R166). -/
def execOraZpX (o : Byte) (s : State) : Result := .next (oraA (.zpX o) s)

/-- ORA $nnnn,Y, opcode 19 (R301, R170). -/
def execOraAbsY (w : Word) (s : State) : Result := .next (oraA (.absY w) s)

/-- ORA $nnnn,X, opcode 1D (R301, R169). -/
def execOraAbsX (w : Word) (s : State) : Result := .next (oraA (.absX w) s)

/-- EOR ($nn,X), opcode 41 (R302, R172). -/
def execEorIndX (o : Byte) (s : State) : Result := .next (eorA (.indX o) s)

/-- EOR $nn, opcode 45 (R302, R165). -/
def execEorZp (o : Byte) (s : State) : Result := .next (eorA (.zp o) s)

/-- EOR #$nn, opcode 49 (R302, R163). -/
def execEorImm (v : Byte) (s : State) : Result := .next (eorA (.imm v) s)

/-- EOR $nnnn, opcode 4D (R302, R168). -/
def execEorAbs (w : Word) (s : State) : Result := .next (eorA (.abs w) s)

/-- EOR ($nn),Y, opcode 51 (R302, R173). -/
def execEorIndY (o : Byte) (s : State) : Result := .next (eorA (.indY o) s)

/-- EOR ($nn), opcode 52 (R302, R174). -/
def execEorZpInd (o : Byte) (s : State) : Result := .next (eorA (.zpInd o) s)

/-- EOR $nn,X, opcode 55 (R302, R166). -/
def execEorZpX (o : Byte) (s : State) : Result := .next (eorA (.zpX o) s)

/-- EOR $nnnn,Y, opcode 59 (R302, R170). -/
def execEorAbsY (w : Word) (s : State) : Result := .next (eorA (.absY w) s)

/-- EOR $nnnn,X, opcode 5D (R302, R169). -/
def execEorAbsX (w : Word) (s : State) : Result := .next (eorA (.absX w) s)

/-- BIT $nn, opcode 24 (R303, R165). -/
def execBitZp (o : Byte) (s : State) : Result := .next (bitTest (.zp o) s)

/-- BIT $nnnn, opcode 2C (R303, R168). -/
def execBitAbs (w : Word) (s : State) : Result := .next (bitTest (.abs w) s)

/-- BIT $nn,X, opcode 34 (R303, R166). -/
def execBitZpX (o : Byte) (s : State) : Result := .next (bitTest (.zpX o) s)

/-- BIT $nnnn,X, opcode 3C (R303, R169). -/
def execBitAbsX (w : Word) (s : State) : Result := .next (bitTest (.absX w) s)

/-- BIT #$nn, opcode 89 (R303, R163). -/
def execBitImm (v : Byte) (s : State) : Result := .next (bitTest (.imm v) s)

/-- TSB $nn, opcode 04 (R304, R165). -/
def execTsbZp (o : Byte) (s : State) : Result := .next (tsb (.zp o) s)

/-- TSB $nnnn, opcode 0C (R304, R168). -/
def execTsbAbs (w : Word) (s : State) : Result := .next (tsb (.abs w) s)

/-- TRB $nn, opcode 14 (R305, R165). -/
def execTrbZp (o : Byte) (s : State) : Result := .next (trb (.zp o) s)

/-- TRB $nnnn, opcode 1C (R305, R168). -/
def execTrbAbs (w : Word) (s : State) : Result := .next (trb (.abs w) s)

end Sys2Proof.Machine
end

