-- ==== Sys2Proof/Machine/Dispatch.lean ====
section
/-! DEFINITION. What each instruction does: one arm per constructor of Instr, each one direct call of its
meaning (R12, R413). -/

namespace Sys2Proof.Machine

/-- The handler of an instruction, run with PC past its operand bytes (R12). The base cycles are the driver's
(R413). -/
def exec (i : Instr) (s : State) : Host.Outcome State Fault Refusal :=
  match i with
  | .ldaIndX o => Sys2Proof.Machine.execLdaIndX o s
  | .ldaZp o => Sys2Proof.Machine.execLdaZp o s
  | .ldaImm v => Sys2Proof.Machine.execLdaImm v s
  | .ldaAbs w => Sys2Proof.Machine.execLdaAbs w s
  | .ldaIndY o => Sys2Proof.Machine.execLdaIndY o s
  | .ldaZpInd o => Sys2Proof.Machine.execLdaZpInd o s
  | .ldaZpX o => Sys2Proof.Machine.execLdaZpX o s
  | .ldaAbsY w => Sys2Proof.Machine.execLdaAbsY w s
  | .ldaAbsX w => Sys2Proof.Machine.execLdaAbsX w s
  | .ldxImm v => Sys2Proof.Machine.execLdxImm v s
  | .ldxZp o => Sys2Proof.Machine.execLdxZp o s
  | .ldxAbs w => Sys2Proof.Machine.execLdxAbs w s
  | .ldxZpY o => Sys2Proof.Machine.execLdxZpY o s
  | .ldxAbsY w => Sys2Proof.Machine.execLdxAbsY w s
  | .ldyImm v => Sys2Proof.Machine.execLdyImm v s
  | .ldyZp o => Sys2Proof.Machine.execLdyZp o s
  | .ldyAbs w => Sys2Proof.Machine.execLdyAbs w s
  | .ldyZpX o => Sys2Proof.Machine.execLdyZpX o s
  | .ldyAbsX w => Sys2Proof.Machine.execLdyAbsX w s
  | .staIndX o => Sys2Proof.Machine.execStaIndX o s
  | .staZp o => Sys2Proof.Machine.execStaZp o s
  | .staAbs w => Sys2Proof.Machine.execStaAbs w s
  | .staIndY o => Sys2Proof.Machine.execStaIndY o s
  | .staZpInd o => Sys2Proof.Machine.execStaZpInd o s
  | .staZpX o => Sys2Proof.Machine.execStaZpX o s
  | .staAbsY w => Sys2Proof.Machine.execStaAbsY w s
  | .staAbsX w => Sys2Proof.Machine.execStaAbsX w s
  | .stxZp o => Sys2Proof.Machine.execStxZp o s
  | .stxAbs w => Sys2Proof.Machine.execStxAbs w s
  | .stxZpY o => Sys2Proof.Machine.execStxZpY o s
  | .styZp o => Sys2Proof.Machine.execStyZp o s
  | .styAbs w => Sys2Proof.Machine.execStyAbs w s
  | .styZpX o => Sys2Proof.Machine.execStyZpX o s
  | .stzZp o => Sys2Proof.Machine.execStzZp o s
  | .stzZpX o => Sys2Proof.Machine.execStzZpX o s
  | .stzAbs w => Sys2Proof.Machine.execStzAbs w s
  | .stzAbsX w => Sys2Proof.Machine.execStzAbsX w s
  | .tax => Sys2Proof.Machine.execTax s
  | .tay => Sys2Proof.Machine.execTay s
  | .txa => Sys2Proof.Machine.execTxa s
  | .tya => Sys2Proof.Machine.execTya s
  | .tsx => Sys2Proof.Machine.execTsx s
  | .txs => Sys2Proof.Machine.execTxs s
  | .pha => Sys2Proof.Machine.execPha s
  | .phx => Sys2Proof.Machine.execPhx s
  | .phy => Sys2Proof.Machine.execPhy s
  | .php => Sys2Proof.Machine.execPhp s
  | .pla => Sys2Proof.Machine.execPla s
  | .plx => Sys2Proof.Machine.execPlx s
  | .ply => Sys2Proof.Machine.execPly s
  | .plp => Sys2Proof.Machine.execPlp s
  | .adcIndX o => Sys2Proof.Machine.execAdcIndX o s
  | .adcZp o => Sys2Proof.Machine.execAdcZp o s
  | .adcImm v => Sys2Proof.Machine.execAdcImm v s
  | .adcAbs w => Sys2Proof.Machine.execAdcAbs w s
  | .adcIndY o => Sys2Proof.Machine.execAdcIndY o s
  | .adcZpInd o => Sys2Proof.Machine.execAdcZpInd o s
  | .adcZpX o => Sys2Proof.Machine.execAdcZpX o s
  | .adcAbsY w => Sys2Proof.Machine.execAdcAbsY w s
  | .adcAbsX w => Sys2Proof.Machine.execAdcAbsX w s
  | .sbcIndX o => Sys2Proof.Machine.execSbcIndX o s
  | .sbcZp o => Sys2Proof.Machine.execSbcZp o s
  | .sbcImm v => Sys2Proof.Machine.execSbcImm v s
  | .sbcAbs w => Sys2Proof.Machine.execSbcAbs w s
  | .sbcIndY o => Sys2Proof.Machine.execSbcIndY o s
  | .sbcZpInd o => Sys2Proof.Machine.execSbcZpInd o s
  | .sbcZpX o => Sys2Proof.Machine.execSbcZpX o s
  | .sbcAbsY w => Sys2Proof.Machine.execSbcAbsY w s
  | .sbcAbsX w => Sys2Proof.Machine.execSbcAbsX w s
  | .cmpIndX o => Sys2Proof.Machine.execCmpIndX o s
  | .cmpZp o => Sys2Proof.Machine.execCmpZp o s
  | .cmpImm v => Sys2Proof.Machine.execCmpImm v s
  | .cmpAbs w => Sys2Proof.Machine.execCmpAbs w s
  | .cmpIndY o => Sys2Proof.Machine.execCmpIndY o s
  | .cmpZpInd o => Sys2Proof.Machine.execCmpZpInd o s
  | .cmpZpX o => Sys2Proof.Machine.execCmpZpX o s
  | .cmpAbsY w => Sys2Proof.Machine.execCmpAbsY w s
  | .cmpAbsX w => Sys2Proof.Machine.execCmpAbsX w s
  | .cpxImm v => Sys2Proof.Machine.execCpxImm v s
  | .cpxZp o => Sys2Proof.Machine.execCpxZp o s
  | .cpxAbs w => Sys2Proof.Machine.execCpxAbs w s
  | .cpyImm v => Sys2Proof.Machine.execCpyImm v s
  | .cpyZp o => Sys2Proof.Machine.execCpyZp o s
  | .cpyAbs w => Sys2Proof.Machine.execCpyAbs w s
  | .incA => Sys2Proof.Machine.execIncA s
  | .incZp o => Sys2Proof.Machine.execIncZp o s
  | .incAbs w => Sys2Proof.Machine.execIncAbs w s
  | .incZpX o => Sys2Proof.Machine.execIncZpX o s
  | .incAbsX w => Sys2Proof.Machine.execIncAbsX w s
  | .decA => Sys2Proof.Machine.execDecA s
  | .decZp o => Sys2Proof.Machine.execDecZp o s
  | .decAbs w => Sys2Proof.Machine.execDecAbs w s
  | .decZpX o => Sys2Proof.Machine.execDecZpX o s
  | .decAbsX w => Sys2Proof.Machine.execDecAbsX w s
  | .inx => Sys2Proof.Machine.execInx s
  | .dex => Sys2Proof.Machine.execDex s
  | .iny => Sys2Proof.Machine.execIny s
  | .dey => Sys2Proof.Machine.execDey s
  | .aslZp o => Sys2Proof.Machine.execAslZp o s
  | .aslA => Sys2Proof.Machine.execAslA s
  | .aslAbs w => Sys2Proof.Machine.execAslAbs w s
  | .aslZpX o => Sys2Proof.Machine.execAslZpX o s
  | .aslAbsX w => Sys2Proof.Machine.execAslAbsX w s
  | .lsrZp o => Sys2Proof.Machine.execLsrZp o s
  | .lsrA => Sys2Proof.Machine.execLsrA s
  | .lsrAbs w => Sys2Proof.Machine.execLsrAbs w s
  | .lsrZpX o => Sys2Proof.Machine.execLsrZpX o s
  | .lsrAbsX w => Sys2Proof.Machine.execLsrAbsX w s
  | .rolZp o => Sys2Proof.Machine.execRolZp o s
  | .rolA => Sys2Proof.Machine.execRolA s
  | .rolAbs w => Sys2Proof.Machine.execRolAbs w s
  | .rolZpX o => Sys2Proof.Machine.execRolZpX o s
  | .rolAbsX w => Sys2Proof.Machine.execRolAbsX w s
  | .rorZp o => Sys2Proof.Machine.execRorZp o s
  | .rorA => Sys2Proof.Machine.execRorA s
  | .rorAbs w => Sys2Proof.Machine.execRorAbs w s
  | .rorZpX o => Sys2Proof.Machine.execRorZpX o s
  | .rorAbsX w => Sys2Proof.Machine.execRorAbsX w s
  | .andIndX o => Sys2Proof.Machine.execAndIndX o s
  | .andZp o => Sys2Proof.Machine.execAndZp o s
  | .andImm v => Sys2Proof.Machine.execAndImm v s
  | .andAbs w => Sys2Proof.Machine.execAndAbs w s
  | .andIndY o => Sys2Proof.Machine.execAndIndY o s
  | .andZpInd o => Sys2Proof.Machine.execAndZpInd o s
  | .andZpX o => Sys2Proof.Machine.execAndZpX o s
  | .andAbsY w => Sys2Proof.Machine.execAndAbsY w s
  | .andAbsX w => Sys2Proof.Machine.execAndAbsX w s
  | .oraIndX o => Sys2Proof.Machine.execOraIndX o s
  | .oraZp o => Sys2Proof.Machine.execOraZp o s
  | .oraImm v => Sys2Proof.Machine.execOraImm v s
  | .oraAbs w => Sys2Proof.Machine.execOraAbs w s
  | .oraIndY o => Sys2Proof.Machine.execOraIndY o s
  | .oraZpInd o => Sys2Proof.Machine.execOraZpInd o s
  | .oraZpX o => Sys2Proof.Machine.execOraZpX o s
  | .oraAbsY w => Sys2Proof.Machine.execOraAbsY w s
  | .oraAbsX w => Sys2Proof.Machine.execOraAbsX w s
  | .eorIndX o => Sys2Proof.Machine.execEorIndX o s
  | .eorZp o => Sys2Proof.Machine.execEorZp o s
  | .eorImm v => Sys2Proof.Machine.execEorImm v s
  | .eorAbs w => Sys2Proof.Machine.execEorAbs w s
  | .eorIndY o => Sys2Proof.Machine.execEorIndY o s
  | .eorZpInd o => Sys2Proof.Machine.execEorZpInd o s
  | .eorZpX o => Sys2Proof.Machine.execEorZpX o s
  | .eorAbsY w => Sys2Proof.Machine.execEorAbsY w s
  | .eorAbsX w => Sys2Proof.Machine.execEorAbsX w s
  | .bitZp o => Sys2Proof.Machine.execBitZp o s
  | .bitAbs w => Sys2Proof.Machine.execBitAbs w s
  | .bitZpX o => Sys2Proof.Machine.execBitZpX o s
  | .bitAbsX w => Sys2Proof.Machine.execBitAbsX w s
  | .bitImm v => Sys2Proof.Machine.execBitImm v s
  | .tsbZp o => Sys2Proof.Machine.execTsbZp o s
  | .tsbAbs w => Sys2Proof.Machine.execTsbAbs w s
  | .trbZp o => Sys2Proof.Machine.execTrbZp o s
  | .trbAbs w => Sys2Proof.Machine.execTrbAbs w s
  | .jmpAbs w => Sys2Proof.Machine.execJmpAbs w s
  | .jmpInd w => Sys2Proof.Machine.execJmpInd w s
  | .jmpAbsIndX w => Sys2Proof.Machine.execJmpAbsIndX w s
  | .jsr w => Sys2Proof.Machine.execJsr w s
  | .rts => Sys2Proof.Machine.execRts s
  | .rti => Sys2Proof.Machine.execRti s
  | .brk => Sys2Proof.Machine.execBrk s
  | .bcc off => Sys2Proof.Machine.execBcc off s
  | .bcs off => Sys2Proof.Machine.execBcs off s
  | .beq off => Sys2Proof.Machine.execBeq off s
  | .bne off => Sys2Proof.Machine.execBne off s
  | .bmi off => Sys2Proof.Machine.execBmi off s
  | .bpl off => Sys2Proof.Machine.execBpl off s
  | .bvc off => Sys2Proof.Machine.execBvc off s
  | .bvs off => Sys2Proof.Machine.execBvs off s
  | .bra off => Sys2Proof.Machine.execBra off s
  | .clc => Sys2Proof.Machine.execClc s
  | .sec => Sys2Proof.Machine.execSec s
  | .cli => Sys2Proof.Machine.execCli s
  | .sei => Sys2Proof.Machine.execSei s
  | .cld => Sys2Proof.Machine.execCld s
  | .sed => Sys2Proof.Machine.execSed s
  | .clv => Sys2Proof.Machine.execClv s
  | .nop => Sys2Proof.Machine.execNop s
  | .rmb0 o => Sys2Proof.Machine.execRmb0 o s
  | .rmb1 o => Sys2Proof.Machine.execRmb1 o s
  | .rmb2 o => Sys2Proof.Machine.execRmb2 o s
  | .rmb3 o => Sys2Proof.Machine.execRmb3 o s
  | .rmb4 o => Sys2Proof.Machine.execRmb4 o s
  | .rmb5 o => Sys2Proof.Machine.execRmb5 o s
  | .rmb6 o => Sys2Proof.Machine.execRmb6 o s
  | .rmb7 o => Sys2Proof.Machine.execRmb7 o s
  | .smb0 o => Sys2Proof.Machine.execSmb0 o s
  | .smb1 o => Sys2Proof.Machine.execSmb1 o s
  | .smb2 o => Sys2Proof.Machine.execSmb2 o s
  | .smb3 o => Sys2Proof.Machine.execSmb3 o s
  | .smb4 o => Sys2Proof.Machine.execSmb4 o s
  | .smb5 o => Sys2Proof.Machine.execSmb5 o s
  | .smb6 o => Sys2Proof.Machine.execSmb6 o s
  | .smb7 o => Sys2Proof.Machine.execSmb7 o s
  | .bbr0 zp off => Sys2Proof.Machine.execBbr0 zp off s
  | .bbr1 zp off => Sys2Proof.Machine.execBbr1 zp off s
  | .bbr2 zp off => Sys2Proof.Machine.execBbr2 zp off s
  | .bbr3 zp off => Sys2Proof.Machine.execBbr3 zp off s
  | .bbr4 zp off => Sys2Proof.Machine.execBbr4 zp off s
  | .bbr5 zp off => Sys2Proof.Machine.execBbr5 zp off s
  | .bbr6 zp off => Sys2Proof.Machine.execBbr6 zp off s
  | .bbr7 zp off => Sys2Proof.Machine.execBbr7 zp off s
  | .bbs0 zp off => Sys2Proof.Machine.execBbs0 zp off s
  | .bbs1 zp off => Sys2Proof.Machine.execBbs1 zp off s
  | .bbs2 zp off => Sys2Proof.Machine.execBbs2 zp off s
  | .bbs3 zp off => Sys2Proof.Machine.execBbs3 zp off s
  | .bbs4 zp off => Sys2Proof.Machine.execBbs4 zp off s
  | .bbs5 zp off => Sys2Proof.Machine.execBbs5 zp off s
  | .bbs6 zp off => Sys2Proof.Machine.execBbs6 zp off s
  | .bbs7 zp off => Sys2Proof.Machine.execBbs7 zp off s
  | .nop02 v => Sys2Proof.Machine.execNop02 v s
  | .nop22 v => Sys2Proof.Machine.execNop22 v s
  | .nop42 v => Sys2Proof.Machine.execNop42 v s
  | .nop44 o => Sys2Proof.Machine.execNop44 o s
  | .nop54 o => Sys2Proof.Machine.execNop54 o s
  | .nop5C w => Sys2Proof.Machine.execNop5C w s
  | .nop62 v => Sys2Proof.Machine.execNop62 v s
  | .nop82 v => Sys2Proof.Machine.execNop82 v s
  | .nopC2 v => Sys2Proof.Machine.execNopC2 v s
  | .nopD4 o => Sys2Proof.Machine.execNopD4 o s
  | .nopDC w => Sys2Proof.Machine.execNopDC w s
  | .nopE2 v => Sys2Proof.Machine.execNopE2 v s
  | .nopF4 o => Sys2Proof.Machine.execNopF4 o s
  | .nopFC w => Sys2Proof.Machine.execNopFC w s
  | .wai => Sys2Proof.Machine.execWai s
  | .stp => Sys2Proof.Machine.execStp s
  | .nop03 => Sys2Proof.Machine.execNop03 s
  | .nop0B => Sys2Proof.Machine.execNop0B s
  | .nop13 => Sys2Proof.Machine.execNop13 s
  | .nop1B => Sys2Proof.Machine.execNop1B s
  | .nop23 => Sys2Proof.Machine.execNop23 s
  | .nop2B => Sys2Proof.Machine.execNop2B s
  | .nop33 => Sys2Proof.Machine.execNop33 s
  | .nop3B => Sys2Proof.Machine.execNop3B s
  | .nop43 => Sys2Proof.Machine.execNop43 s
  | .nop4B => Sys2Proof.Machine.execNop4B s
  | .nop53 => Sys2Proof.Machine.execNop53 s
  | .nop5B => Sys2Proof.Machine.execNop5B s
  | .nop63 => Sys2Proof.Machine.execNop63 s
  | .nop6B => Sys2Proof.Machine.execNop6B s
  | .nop73 => Sys2Proof.Machine.execNop73 s
  | .nop7B => Sys2Proof.Machine.execNop7B s
  | .nop83 => Sys2Proof.Machine.execNop83 s
  | .nop8B => Sys2Proof.Machine.execNop8B s
  | .nop93 => Sys2Proof.Machine.execNop93 s
  | .nop9B => Sys2Proof.Machine.execNop9B s
  | .nopA3 => Sys2Proof.Machine.execNopA3 s
  | .nopAB => Sys2Proof.Machine.execNopAB s
  | .nopB3 => Sys2Proof.Machine.execNopB3 s
  | .nopBB => Sys2Proof.Machine.execNopBB s
  | .nopC3 => Sys2Proof.Machine.execNopC3 s
  | .nopD3 => Sys2Proof.Machine.execNopD3 s
  | .nopE3 => Sys2Proof.Machine.execNopE3 s
  | .nopEB => Sys2Proof.Machine.execNopEB s
  | .nopF3 => Sys2Proof.Machine.execNopF3 s
  | .nopFB => Sys2Proof.Machine.execNopFB s

end Sys2Proof.Machine
end

