-- ==== Sys2Proof/Machine/Fetch.lean ====
section
/-! DEFINITION. Fetching an instruction's bytes (R92, R121, R122, R413): the opcode byte, then, once its row is known,
each operand byte, in ascending addresses, one Bus read each. -/

namespace Sys2Proof.Machine

/-- What a fetch finds: an opcode byte that is undefined on NMOS, or an instruction; and the state after it. -/
inductive Fetched where
  | undefined (s : State)
  | instr (i : Instr) (s : State)
  deriving DecidableEq, Repr

/-- The fetch of one instruction (R413, R122). An undefined byte has no operands: only the opcode is read (R121,
R393). -/
def fetchInstr (s : State) : Fetched :=
  let op := s.fetch8
  match opForm s.variant op.1 with
  | none => .undefined op.2
  | some (.f1 i) => .instr i op.2
  | some (.f2 build) =>
    let o := op.2.fetch8
    .instr (build o.1) o.2
  | some (.f3 build) =>
    let l := op.2.fetch8
    let h := l.2.fetch8
    .instr (build (mkWord h.1 l.1)) h.2
  | some (.f3zr build) =>
    let zp := op.2.fetch8
    let off := zp.2.fetch8
    .instr (build zp.1 off.1) off.2

/-- The three bytes that three Bus reads from PC upward would give, looked at without an access: every instruction is
at most three bytes long (R121). -/
def State.bytesAtPc (s : State) : List Byte :=
  [s.peek s.pc, (s.noteRead s.pc).peek (s.pc + 1#16),
   ((s.noteRead s.pc).noteRead (s.pc + 1#16)).peek (s.pc + 2#16)]

/-- The state after the driver has read `n` instruction bytes at PC: `n` Bus reads in ascending addresses, PC past
them. -/
def State.fetchedBytes : Nat → State → State
  | 0, s => s
  | n + 1, s => State.fetchedBytes n s.fetch8.2

end Sys2Proof.Machine
end

