-- ==== Sys2Proof/Machine/Driver.lean ====
section
/-! DEFINITION. The step driver (R410 to R420): the cycle budget, the sampling of the request latches at a
zero-budget transition, the entries, the wait of WAI, the halted state, and the dispatch of one instruction. -/

namespace Sys2Proof.Machine

/-- The decrement that ends a `step()` (R410). -/
def State.tick (s : State) : State := { s with cycles := s.cycles - 1 }

/-- The reset sequence with its budget (R410 item 1, R461). -/
def State.resetWithBudget (s : State) : State := { s.resetSequence with cycles := resetCycles s.variant }

/-- NMI entry (R411): not masked by I. -/
def State.nmiEntry (s : State) : State :=
  { s.interruptEntry nmiVector with nmiPending := false, cycles := entryCycles }

/-- IRQ entry (R412). -/
def State.irqEntry (s : State) : State :=
  { s.interruptEntry irqVector with irqPending := false, cycles := entryCycles }

/-- `Dispatch()` and the decrement after it (R413, R410). On an undefined NMOS byte the core halts with nothing
charged and no decrement (R393, C1). -/
def dispatch (s : State) : Result :=
  match fetchInstr s with
  | .undefined t => .next { t with halted := true }
  | .instr i t =>
    match exec i t with
    | .next u => .next (u.charge (baseCycles s.costs s.variant i.opcode)).tick
    | .fault r => .fault r
    | .refused r => .refused r

/-- The zero-budget transition in the order RESET, NMI, IRQ, the wait of WAI, dispatch (R410, R415, R391). -/
def transition (s : State) : Result :=
  if s.resetPending then .next s.resetWithBudget.tick
  else if s.nmiPending then .next s.nmiEntry.tick
  else if s.irqPending && !s.flag .i then .next s.irqEntry.tick
  else if s.waiting && !s.irqPending then .next s
  else dispatch { s with waiting := false }

/-- One emulated clock tick after the first reset (R410): a halted core acts only on a reset request, whatever its
budget is (R420, D3); a core that owes cycles only counts down. -/
def clockTick (s : State) : Result :=
  if s.halted then (if s.resetPending then .next s.resetWithBudget.tick else .next s)
  else if s.cycles = 0 then transition s
  else .next s.tick

/-- `step()`: refused before the first reset (R57, D5), one clock tick from then on. -/
def stepCore (s : State) : Result := if s.started then clockTick s else .refused .stepBeforeReset

/-- The memory with the bytes of a list stored from `addr` upward, modulo 65536; no Bus access is made. -/
def placeBytes : List Byte → Word → List Host.Cell → List Host.Cell
  | [], _, m => m
  | b :: rest, addr, m => placeBytes rest (addr + 1#16) (Memory.write m addr.toNat b)

/-- A map with RAM at one address, where the byte there would come from a device. -/
def ramAt (map : List Region) (addr : Word) : List Region :=
  if kindIn map addr = .device then { first := addr, last := addr, kind := .ram } :: map else map

/-- The state with an instruction's table bytes at PC and with what keeps the next step from fetching them taken
away: a device that would answer there, a budget still owed, a halt, a wait, a request that would be served first
(log entry 10). -/
def placeInstruction (s : State) (nbits w : Nat) : State :=
  { s with
    mem := placeBytes (tableBytes nbits w) s.pc s.mem
    map := ramAt (ramAt (ramAt s.map s.pc) (s.pc + 1#16)) (s.pc + 2#16)
    started := true
    cycles := 0
    halted := false
    waiting := false
    resetPending := false
    nmiPending := false
    irqPending := s.irqPending && s.flag .i }

end Sys2Proof.Machine
end

