-- ==== Sys2Proof/Machine/Step.lean ====
section
/-! DEFINITION. The step of the machine (R410) and the host's way to place an instruction before it. Everything they
do stands in Driver.lean. -/

namespace Sys2Proof.Machine

/-- `step()`, one call, one emulated clock tick (R7, R410). -/
def step (s : State) : Host.Outcome State Fault Refusal := stepCore s

/-- The state in which the very next step fetches and runs the instruction whose opcode-table number is `w`. -/
def State.withFetchWord (s : State) (nbits w : Nat) : State := placeInstruction s nbits w

end Sys2Proof.Machine
end

