-- ==== Sys2Proof/Machine/HostPort.lean ====
section
/-! DEFINITION. What the host may do between two calls of the core (R7, R465): construction, the direct reset, the
three requests, the debug mutators, and changes of memory and devices behind the Bus. None of them is part of `step`. -/

namespace Sys2Proof.Machine

/-- `new(bus, variant)` (R460): the three parameters are fixed, the variant as given, the Bus (`map`, with what its
memory and devices hold, `mem` and `answers`) and the cycle table as `u` has them; the three latches are false, no access
is made; every other piece of state is whatever `u` holds, since the spec leaves it unspecified (R57, U5, D5). The wait
latch does not exist on NMOS (R50). -/
def State.construct (v : Variant) (u : State) : State :=
  { u with
    variant := v
    waiting := u.waiting && decide (v = Variant.wdc65c02)
    resetPending := false
    nmiPending := false
    irqPending := false
    started := false
    bus := [] }

/-- `reset()` (R461): the reset sequence at once and its full budget, no decrement. -/
def State.hostReset (s : State) : State :=
  { s.resetSequence with cycles := resetCycles s.variant, started := true }

/-- `set_reset()` (R416, R463). -/
def State.setReset (s : State) : State := { s with resetPending := true }

/-- `set_nmi()` (R416). -/
def State.setNmi (s : State) : State := { s with nmiPending := true }

/-- `set_irq()` (R416). -/
def State.setIrq (s : State) : State := { s with irqPending := true }

/-- The mutator of A (R470). -/
def State.mutateA (s : State) (v : Byte) : State := { s with a := v }

/-- The mutator of X (R470). -/
def State.mutateX (s : State) (v : Byte) : State := { s with x := v }

/-- The mutator of Y (R470). -/
def State.mutateY (s : State) (v : Byte) : State := { s with y := v }

/-- The mutator of SP (R470). -/
def State.mutateSp (s : State) (v : Byte) : State := { s with sp := v }

/-- The mutator of PC (R470). -/
def State.mutatePc (s : State) (w : Word) : State := { s with pc := w }

/-- The mutator of P: it stores `v | 0x20` (R470, D15). -/
def State.mutateP (s : State) (v : Byte) : State := { s with p := v ||| 0x20#8 }

/-- The mutator of `Cycles` (R470). -/
def State.mutateCycles (s : State) (n : Nat) : State := { s with cycles := n }

/-- The mutator of `Halted` (R470). -/
def State.mutateHalted (s : State) (on : Bool) : State := { s with halted := on }

/-- The devices' state changed behind the Bus (R80, R465): what they will have answered, from the first device read
since construction on. No access of the core. -/
def State.setAnswers (s : State) (answers : List Byte) : State := { s with answers := answers }

/-- A byte of memory, of RAM or ROM, changed behind the Bus (R95, R465): no access of the core. -/
def State.poke (s : State) (addr : Word) (v : Byte) : State :=
  { s with mem := Memory.write s.mem addr.toNat v }

/-- One thing the host does between two calls of `step()` (R465). -/
inductive HostAction where
  | reset
  | setReset
  | setNmi
  | setIrq
  | mutateA (v : Byte)
  | mutateX (v : Byte)
  | mutateY (v : Byte)
  | mutateSp (v : Byte)
  | mutatePc (w : Word)
  | mutateP (v : Byte)
  | mutateCycles (n : Nat)
  | mutateHalted (on : Bool)
  | poke (addr : Word) (v : Byte)
  | setAnswers (answers : List Byte)
  deriving DecidableEq, Repr

/-- The state after a host action (R465). -/
def State.host (act : HostAction) (s : State) : State :=
  match act with
  | .reset => s.hostReset
  | .setReset => s.setReset
  | .setNmi => s.setNmi
  | .setIrq => s.setIrq
  | .mutateA v => s.mutateA v
  | .mutateX v => s.mutateX v
  | .mutateY v => s.mutateY v
  | .mutateSp v => s.mutateSp v
  | .mutatePc w => s.mutatePc w
  | .mutateP v => s.mutateP v
  | .mutateCycles n => s.mutateCycles n
  | .mutateHalted on => s.mutateHalted on
  | .poke addr v => s.poke addr v
  | .setAnswers answers => s.setAnswers answers

end Sys2Proof.Machine
end

