-- ==== Sys2Proof/Safety.lean ====
section
/-! DEFINITION. What counts as a good state and as the end of a run, in the terms claims use: the invariants of R55
and R50, the end of a run (R466), and the states a host can bring the machine to. -/

namespace Sys2Proof.Machine

/-- The invariant of every state from construction on: memory is in its canonical form; once a reset has run, bit 5
of P is 1 (R38, R55 invariant 1); the wait latch is never set on NMOS (R50). -/
structure Inv (s : State) : Prop where
  memory : Memory.wf s.mem = true
  unused : s.started = true → s.flag .u = true
  noWaitOnNmos : s.variant = .nmos → s.waiting = false

/-- The run is over: the first state with `Halted` true (R466, D19). -/
def Ended (s : State) : Prop := s.halted = true

/-- What a host can bring about from a constructed core (R465): construction, any of its actions, and steps. -/
inductive Reachable : State → Prop where
  | construct (v : Variant) (u : State) (h : Memory.wf u.mem = true) : Reachable (State.construct v u)
  | host (act : HostAction) (s : State) (h : Reachable s) : Reachable (State.host act s)
  | step (s t : State) (h : Reachable s) (ht : step s = .next t) : Reachable t

end Sys2Proof.Machine
end

