-- ==== Sys2Proof/Safety/Forms.lean ====
section
/-! DEFINITION. The vocabulary of the claims: the instructions of each family with their modes and opcode bytes as
the spec's rules list them, what an instruction may write, and the operand, the accesses and the bonus of a mode
as R160 to R178 and R96 give them. -/

namespace Sys2Proof.Machine

/-- An instruction as a family rule lists it: its opcode byte ("Encoding"), whether NMOS has it, its syntax, and
its addressing mode. -/
structure Form where
  opcode : Byte
  onNmos : Bool
  instr : Instr
  mode : Mode

/-- The encoding line of a form holds: its opcode byte and the variants that have it. -/
def Form.encoded (f : Form) : Prop := f.instr.opcode = f.opcode ∧ f.instr.onNmos = f.onNmos

/-- The effective address of a mode (R178). -/
def effectiveAddr (m : Mode) (s : State) : Word := (resolve m s).addr

/-- The accesses of Bus reads of a list of addresses, made one after the other, with what each answers (R90). -/
def readsOf : List Word → State → List Access
  | [], _ => []
  | addr :: rest, s => .read addr (s.peek addr) :: readsOf rest (s.noteRead addr)

/-- The addresses of the pointer reads of a mode in order, low byte first (R96, R171 to R175). -/
def pointerAddrs (m : Mode) (s : State) : List Word :=
  match m with
  | .ind w => [w, indirectNext s.variant w]
  | .indX o => [zext16 (o + s.x), zpNext (o + s.x)]
  | .indY o => [zext16 o, zpNext o]
  | .zpInd o => [zext16 o, zpNext o]
  | .absIndX w => [w + zext16 s.x, w + zext16 s.x + 1#16]
  | _ => []

/-- The pointer reads of a mode. -/
def pointerReads (m : Mode) (s : State) : List Access := readsOf (pointerAddrs m s) s

/-- The state after a mode's pointer reads. -/
def afterPointers (m : Mode) (s : State) : State := { s with bus := s.bus ++ pointerReads m s }

/-- The operand byte of a read instruction: the immediate byte, or what the Bus answers at the effective address
after the pointer reads. -/
def operandByte (m : Mode) (s : State) : Byte :=
  match m with
  | .imm v => v
  | m => (afterPointers m s).peek (effectiveAddr m s)

/-- The accesses of a read instruction after its instruction bytes (R96): the pointer reads, then the one data read;
none in Immediate mode, where the operand fetch is the data read. -/
def operandReads (m : Mode) (s : State) : List Access :=
  match m with
  | .imm _ => []
  | m => pointerReads m s ++ [.read (effectiveAddr m s) (operandByte m s)]

/-- The page-cross bonus of a mode (R177). -/
def crossBonus (m : Mode) (s : State) : Nat := if (resolve m s).crossed then 1 else 0

/-- The accesses of a store (R96). -/
def storeAccesses (m : Mode) (v : Byte) (s : State) : List Access :=
  pointerReads m s ++ [.write (effectiveAddr m s) v]

/-- The accesses of a read-modify-write that writes `v` (R96, R284). -/
def modifyAccesses (m : Mode) (v : Byte) (s : State) : List Access :=
  operandReads m s ++ [.write (effectiveAddr m s) v]

/-- The memory after a store to a mode's effective address. -/
def storedMem (m : Mode) (v : Byte) (s : State) : List Host.Cell :=
  busWrite s.map s.mem (effectiveAddr m s) v

/-- The memory after a word is pushed: high byte at `{0x01, SP}`, low byte at `{0x01, SP - 1}` (R83). -/
def pushedWordMem (w : Word) (s : State) : List Host.Cell :=
  busWrite s.map (busWrite s.map s.mem (stackAddr s.sp) (hi w)) (stackAddr (s.sp - 1#8)) (lo w)

/-- The memory after an exception's three pushes (R414). -/
def pushedFrameMem (w : Word) (status : Byte) (s : State) : List Host.Cell :=
  busWrite s.map (pushedWordMem w s) (stackAddr (s.sp - 2#8)) status

/-- The five accesses of an exception entry through `vector` (R96, R414): three writes, two reads. -/
def entryAccesses (w : Word) (status : Byte) (vector : Word) (s : State) : List Access :=
  [.write (stackAddr s.sp) (hi w), .write (stackAddr (s.sp - 1#8)) (lo w),
   .write (stackAddr (s.sp - 2#8)) status] ++ readsOf [vector, vector + 1#16] s

/-- The five registers an instruction can name. -/
inductive Reg where
  | a
  | x
  | y
  | sp
  | pc
  deriving DecidableEq, Repr

/-- A register's value as a number. -/
def regValue : Reg → State → Nat
  | .a, s => s.a.toNat
  | .x, s => s.x.toNat
  | .y, s => s.y.toNat
  | .sp, s => s.sp.toNat
  | .pc, s => s.pc.toNat

/-- LDA in its modes (R201). -/
def ldaForms (o : Byte) (w : Word) : List Form :=
  [⟨0xA1#8, true, .ldaIndX o, .indX o⟩,
   ⟨0xA5#8, true, .ldaZp o, .zp o⟩,
   ⟨0xA9#8, true, .ldaImm o, .imm o⟩,
   ⟨0xAD#8, true, .ldaAbs w, .abs w⟩,
   ⟨0xB1#8, true, .ldaIndY o, .indY o⟩,
   ⟨0xB2#8, false, .ldaZpInd o, .zpInd o⟩,
   ⟨0xB5#8, true, .ldaZpX o, .zpX o⟩,
   ⟨0xB9#8, true, .ldaAbsY w, .absY w⟩,
   ⟨0xBD#8, true, .ldaAbsX w, .absX w⟩]

/-- LDX in its modes (R202). -/
def ldxForms (o : Byte) (w : Word) : List Form :=
  [⟨0xA2#8, true, .ldxImm o, .imm o⟩,
   ⟨0xA6#8, true, .ldxZp o, .zp o⟩,
   ⟨0xAE#8, true, .ldxAbs w, .abs w⟩,
   ⟨0xB6#8, true, .ldxZpY o, .zpY o⟩,
   ⟨0xBE#8, true, .ldxAbsY w, .absY w⟩]

/-- LDY in its modes (R203). -/
def ldyForms (o : Byte) (w : Word) : List Form :=
  [⟨0xA0#8, true, .ldyImm o, .imm o⟩,
   ⟨0xA4#8, true, .ldyZp o, .zp o⟩,
   ⟨0xAC#8, true, .ldyAbs w, .abs w⟩,
   ⟨0xB4#8, true, .ldyZpX o, .zpX o⟩,
   ⟨0xBC#8, true, .ldyAbsX w, .absX w⟩]

/-- STA in its modes (R204). -/
def staForms (o : Byte) (w : Word) : List Form :=
  [⟨0x81#8, true, .staIndX o, .indX o⟩,
   ⟨0x85#8, true, .staZp o, .zp o⟩,
   ⟨0x8D#8, true, .staAbs w, .abs w⟩,
   ⟨0x91#8, true, .staIndY o, .indY o⟩,
   ⟨0x92#8, false, .staZpInd o, .zpInd o⟩,
   ⟨0x95#8, true, .staZpX o, .zpX o⟩,
   ⟨0x99#8, true, .staAbsY w, .absY w⟩,
   ⟨0x9D#8, true, .staAbsX w, .absX w⟩]

/-- STX in its modes (R205). -/
def stxForms (o : Byte) (w : Word) : List Form :=
  [⟨0x86#8, true, .stxZp o, .zp o⟩,
   ⟨0x8E#8, true, .stxAbs w, .abs w⟩,
   ⟨0x96#8, true, .stxZpY o, .zpY o⟩]

/-- STY in its modes (R206). -/
def styForms (o : Byte) (w : Word) : List Form :=
  [⟨0x84#8, true, .styZp o, .zp o⟩,
   ⟨0x8C#8, true, .styAbs w, .abs w⟩,
   ⟨0x94#8, true, .styZpX o, .zpX o⟩]

/-- STZ in its modes (R207). -/
def stzForms (o : Byte) (w : Word) : List Form :=
  [⟨0x64#8, false, .stzZp o, .zp o⟩,
   ⟨0x74#8, false, .stzZpX o, .zpX o⟩,
   ⟨0x9C#8, false, .stzAbs w, .abs w⟩,
   ⟨0x9E#8, false, .stzAbsX w, .absX w⟩]

/-- ADC in its modes (R250). -/
def adcForms (o : Byte) (w : Word) : List Form :=
  [⟨0x61#8, true, .adcIndX o, .indX o⟩,
   ⟨0x65#8, true, .adcZp o, .zp o⟩,
   ⟨0x69#8, true, .adcImm o, .imm o⟩,
   ⟨0x6D#8, true, .adcAbs w, .abs w⟩,
   ⟨0x71#8, true, .adcIndY o, .indY o⟩,
   ⟨0x72#8, false, .adcZpInd o, .zpInd o⟩,
   ⟨0x75#8, true, .adcZpX o, .zpX o⟩,
   ⟨0x79#8, true, .adcAbsY w, .absY w⟩,
   ⟨0x7D#8, true, .adcAbsX w, .absX w⟩]

/-- SBC in its modes (R251). -/
def sbcForms (o : Byte) (w : Word) : List Form :=
  [⟨0xE1#8, true, .sbcIndX o, .indX o⟩,
   ⟨0xE5#8, true, .sbcZp o, .zp o⟩,
   ⟨0xE9#8, true, .sbcImm o, .imm o⟩,
   ⟨0xED#8, true, .sbcAbs w, .abs w⟩,
   ⟨0xF1#8, true, .sbcIndY o, .indY o⟩,
   ⟨0xF2#8, false, .sbcZpInd o, .zpInd o⟩,
   ⟨0xF5#8, true, .sbcZpX o, .zpX o⟩,
   ⟨0xF9#8, true, .sbcAbsY w, .absY w⟩,
   ⟨0xFD#8, true, .sbcAbsX w, .absX w⟩]

/-- CMP in its modes (R252). -/
def cmpForms (o : Byte) (w : Word) : List Form :=
  [⟨0xC1#8, true, .cmpIndX o, .indX o⟩,
   ⟨0xC5#8, true, .cmpZp o, .zp o⟩,
   ⟨0xC9#8, true, .cmpImm o, .imm o⟩,
   ⟨0xCD#8, true, .cmpAbs w, .abs w⟩,
   ⟨0xD1#8, true, .cmpIndY o, .indY o⟩,
   ⟨0xD2#8, false, .cmpZpInd o, .zpInd o⟩,
   ⟨0xD5#8, true, .cmpZpX o, .zpX o⟩,
   ⟨0xD9#8, true, .cmpAbsY w, .absY w⟩,
   ⟨0xDD#8, true, .cmpAbsX w, .absX w⟩]

/-- CPX in its modes (R253). -/
def cpxForms (o : Byte) (w : Word) : List Form :=
  [⟨0xE0#8, true, .cpxImm o, .imm o⟩,
   ⟨0xE4#8, true, .cpxZp o, .zp o⟩,
   ⟨0xEC#8, true, .cpxAbs w, .abs w⟩]

/-- CPY in its modes (R254). -/
def cpyForms (o : Byte) (w : Word) : List Form :=
  [⟨0xC0#8, true, .cpyImm o, .imm o⟩,
   ⟨0xC4#8, true, .cpyZp o, .zp o⟩,
   ⟨0xCC#8, true, .cpyAbs w, .abs w⟩]

/-- INC on memory in its modes (R270). -/
def incForms (o : Byte) (w : Word) : List Form :=
  [⟨0xE6#8, true, .incZp o, .zp o⟩,
   ⟨0xEE#8, true, .incAbs w, .abs w⟩,
   ⟨0xF6#8, true, .incZpX o, .zpX o⟩,
   ⟨0xFE#8, true, .incAbsX w, .absX w⟩]

/-- DEC on memory in its modes (R271). -/
def decForms (o : Byte) (w : Word) : List Form :=
  [⟨0xC6#8, true, .decZp o, .zp o⟩,
   ⟨0xCE#8, true, .decAbs w, .abs w⟩,
   ⟨0xD6#8, true, .decZpX o, .zpX o⟩,
   ⟨0xDE#8, true, .decAbsX w, .absX w⟩]

/-- ASL on memory in its modes (R280). -/
def aslForms (o : Byte) (w : Word) : List Form :=
  [⟨0x06#8, true, .aslZp o, .zp o⟩,
   ⟨0x0E#8, true, .aslAbs w, .abs w⟩,
   ⟨0x16#8, true, .aslZpX o, .zpX o⟩,
   ⟨0x1E#8, true, .aslAbsX w, .absX w⟩]

/-- LSR on memory in its modes (R281). -/
def lsrForms (o : Byte) (w : Word) : List Form :=
  [⟨0x46#8, true, .lsrZp o, .zp o⟩,
   ⟨0x4E#8, true, .lsrAbs w, .abs w⟩,
   ⟨0x56#8, true, .lsrZpX o, .zpX o⟩,
   ⟨0x5E#8, true, .lsrAbsX w, .absX w⟩]

/-- ROL on memory in its modes (R282). -/
def rolForms (o : Byte) (w : Word) : List Form :=
  [⟨0x26#8, true, .rolZp o, .zp o⟩,
   ⟨0x2E#8, true, .rolAbs w, .abs w⟩,
   ⟨0x36#8, true, .rolZpX o, .zpX o⟩,
   ⟨0x3E#8, true, .rolAbsX w, .absX w⟩]

/-- ROR on memory in its modes (R283). -/
def rorForms (o : Byte) (w : Word) : List Form :=
  [⟨0x66#8, true, .rorZp o, .zp o⟩,
   ⟨0x6E#8, true, .rorAbs w, .abs w⟩,
   ⟨0x76#8, true, .rorZpX o, .zpX o⟩,
   ⟨0x7E#8, true, .rorAbsX w, .absX w⟩]

/-- AND in its modes (R300). -/
def andForms (o : Byte) (w : Word) : List Form :=
  [⟨0x21#8, true, .andIndX o, .indX o⟩,
   ⟨0x25#8, true, .andZp o, .zp o⟩,
   ⟨0x29#8, true, .andImm o, .imm o⟩,
   ⟨0x2D#8, true, .andAbs w, .abs w⟩,
   ⟨0x31#8, true, .andIndY o, .indY o⟩,
   ⟨0x32#8, false, .andZpInd o, .zpInd o⟩,
   ⟨0x35#8, true, .andZpX o, .zpX o⟩,
   ⟨0x39#8, true, .andAbsY w, .absY w⟩,
   ⟨0x3D#8, true, .andAbsX w, .absX w⟩]

/-- ORA in its modes (R301). -/
def oraForms (o : Byte) (w : Word) : List Form :=
  [⟨0x01#8, true, .oraIndX o, .indX o⟩,
   ⟨0x05#8, true, .oraZp o, .zp o⟩,
   ⟨0x09#8, true, .oraImm o, .imm o⟩,
   ⟨0x0D#8, true, .oraAbs w, .abs w⟩,
   ⟨0x11#8, true, .oraIndY o, .indY o⟩,
   ⟨0x12#8, false, .oraZpInd o, .zpInd o⟩,
   ⟨0x15#8, true, .oraZpX o, .zpX o⟩,
   ⟨0x19#8, true, .oraAbsY w, .absY w⟩,
   ⟨0x1D#8, true, .oraAbsX w, .absX w⟩]

/-- EOR in its modes (R302). -/
def eorForms (o : Byte) (w : Word) : List Form :=
  [⟨0x41#8, true, .eorIndX o, .indX o⟩,
   ⟨0x45#8, true, .eorZp o, .zp o⟩,
   ⟨0x49#8, true, .eorImm o, .imm o⟩,
   ⟨0x4D#8, true, .eorAbs w, .abs w⟩,
   ⟨0x51#8, true, .eorIndY o, .indY o⟩,
   ⟨0x52#8, false, .eorZpInd o, .zpInd o⟩,
   ⟨0x55#8, true, .eorZpX o, .zpX o⟩,
   ⟨0x59#8, true, .eorAbsY w, .absY w⟩,
   ⟨0x5D#8, true, .eorAbsX w, .absX w⟩]

/-- BIT in its modes (R303). -/
def bitForms (o : Byte) (w : Word) : List Form :=
  [⟨0x24#8, true, .bitZp o, .zp o⟩,
   ⟨0x2C#8, true, .bitAbs w, .abs w⟩,
   ⟨0x34#8, false, .bitZpX o, .zpX o⟩,
   ⟨0x3C#8, false, .bitAbsX w, .absX w⟩,
   ⟨0x89#8, false, .bitImm o, .imm o⟩]

/-- TSB in its modes (R304). -/
def tsbForms (o : Byte) (w : Word) : List Form :=
  [⟨0x04#8, false, .tsbZp o, .zp o⟩,
   ⟨0x0C#8, false, .tsbAbs w, .abs w⟩]

/-- TRB in its modes (R305). -/
def trbForms (o : Byte) (w : Word) : List Form :=
  [⟨0x14#8, false, .trbZp o, .zp o⟩,
   ⟨0x1C#8, false, .trbAbs w, .abs w⟩]

/-- JMP in its modes (R320). -/
def jmpForms (_o : Byte) (w : Word) : List Form :=
  [⟨0x4C#8, true, .jmpAbs w, .abs w⟩,
   ⟨0x6C#8, true, .jmpInd w, .ind w⟩,
   ⟨0x7C#8, false, .jmpAbsIndX w, .absIndX w⟩]

/-- RMBn, n from 0 to 7, with its bit number (R370). -/
def rmbForms (o : Byte) : List (Nat × Form) :=
  [(0, ⟨0x07#8, false, .rmb0 o, .zp o⟩),
   (1, ⟨0x17#8, false, .rmb1 o, .zp o⟩),
   (2, ⟨0x27#8, false, .rmb2 o, .zp o⟩),
   (3, ⟨0x37#8, false, .rmb3 o, .zp o⟩),
   (4, ⟨0x47#8, false, .rmb4 o, .zp o⟩),
   (5, ⟨0x57#8, false, .rmb5 o, .zp o⟩),
   (6, ⟨0x67#8, false, .rmb6 o, .zp o⟩),
   (7, ⟨0x77#8, false, .rmb7 o, .zp o⟩)]

/-- SMBn (R371). -/
def smbForms (o : Byte) : List (Nat × Form) :=
  [(0, ⟨0x87#8, false, .smb0 o, .zp o⟩),
   (1, ⟨0x97#8, false, .smb1 o, .zp o⟩),
   (2, ⟨0xA7#8, false, .smb2 o, .zp o⟩),
   (3, ⟨0xB7#8, false, .smb3 o, .zp o⟩),
   (4, ⟨0xC7#8, false, .smb4 o, .zp o⟩),
   (5, ⟨0xD7#8, false, .smb5 o, .zp o⟩),
   (6, ⟨0xE7#8, false, .smb6 o, .zp o⟩),
   (7, ⟨0xF7#8, false, .smb7 o, .zp o⟩)]

/-- BBRn with its bit number, opcode and instruction (R372). -/
def bbrForms (zp off : Byte) : List (Nat × Byte × Instr) :=
  [(0, 0x0F#8, .bbr0 zp off),
   (1, 0x1F#8, .bbr1 zp off),
   (2, 0x2F#8, .bbr2 zp off),
   (3, 0x3F#8, .bbr3 zp off),
   (4, 0x4F#8, .bbr4 zp off),
   (5, 0x5F#8, .bbr5 zp off),
   (6, 0x6F#8, .bbr6 zp off),
   (7, 0x7F#8, .bbr7 zp off)]

/-- BBSn (R373). -/
def bbsForms (zp off : Byte) : List (Nat × Byte × Instr) :=
  [(0, 0x8F#8, .bbs0 zp off),
   (1, 0x9F#8, .bbs1 zp off),
   (2, 0xAF#8, .bbs2 zp off),
   (3, 0xBF#8, .bbs3 zp off),
   (4, 0xCF#8, .bbs4 zp off),
   (5, 0xDF#8, .bbs5 zp off),
   (6, 0xEF#8, .bbs6 zp off),
   (7, 0xFF#8, .bbs7 zp off)]

/-- The conditional branches: opcode, instruction, tested flag and sense (R331 to R338). -/
def branchForms (off : Byte) : List (Byte × Instr × Flag × Bool) :=
  [(0x90#8, .bcc off, .c, false), (0xB0#8, .bcs off, .c, true), (0xF0#8, .beq off, .z, true),
   (0xD0#8, .bne off, .z, false), (0x30#8, .bmi off, .n, true), (0x10#8, .bpl off, .n, false),
   (0x50#8, .bvc off, .v, false), (0x70#8, .bvs off, .v, true)]

/-- The flag instructions: opcode, instruction, flag and value (R350 to R356). -/
def flagForms : List (Byte × Instr × Flag × Bool) :=
  [(0x18#8, .clc, .c, false), (0x38#8, .sec, .c, true), (0x58#8, .cli, .i, false), (0x78#8, .sei, .i, true),
   (0xD8#8, .cld, .d, false), (0xF8#8, .sed, .d, true), (0xB8#8, .clv, .v, false)]

/-- The 44 reserved opcodes with the length and base cycles of R129. -/
def reservedForms (o : Byte) (w : Word) : List (Byte × Instr × Nat × Nat) :=
  [(0x02#8, .nop02 o, 2, 2), (0x03#8, .nop03, 1, 1), (0x0B#8, .nop0B, 1, 1), (0x13#8, .nop13, 1, 1),
   (0x1B#8, .nop1B, 1, 1), (0x22#8, .nop22 o, 2, 2), (0x23#8, .nop23, 1, 1), (0x2B#8, .nop2B, 1, 1),
   (0x33#8, .nop33, 1, 1), (0x3B#8, .nop3B, 1, 1), (0x42#8, .nop42 o, 2, 2), (0x43#8, .nop43, 1, 1),
   (0x44#8, .nop44 o, 2, 3), (0x4B#8, .nop4B, 1, 1), (0x53#8, .nop53, 1, 1), (0x54#8, .nop54 o, 2, 4),
   (0x5B#8, .nop5B, 1, 1), (0x5C#8, .nop5C w, 3, 8), (0x62#8, .nop62 o, 2, 2), (0x63#8, .nop63, 1, 1),
   (0x6B#8, .nop6B, 1, 1), (0x73#8, .nop73, 1, 1), (0x7B#8, .nop7B, 1, 1), (0x82#8, .nop82 o, 2, 2),
   (0x83#8, .nop83, 1, 1), (0x8B#8, .nop8B, 1, 1), (0x93#8, .nop93, 1, 1), (0x9B#8, .nop9B, 1, 1),
   (0xA3#8, .nopA3, 1, 1), (0xAB#8, .nopAB, 1, 1), (0xB3#8, .nopB3, 1, 1), (0xBB#8, .nopBB, 1, 1),
   (0xC2#8, .nopC2 o, 2, 2), (0xC3#8, .nopC3, 1, 1), (0xD3#8, .nopD3, 1, 1), (0xD4#8, .nopD4 o, 2, 4),
   (0xDC#8, .nopDC w, 3, 4), (0xE2#8, .nopE2 o, 2, 2), (0xE3#8, .nopE3, 1, 1), (0xEB#8, .nopEB, 1, 1),
   (0xF3#8, .nopF3, 1, 1), (0xF4#8, .nopF4 o, 2, 4), (0xFB#8, .nopFB, 1, 1), (0xFC#8, .nopFC w, 3, 4)]

/-- The flags an instruction may write (R40 to R45 and the "Flags" lines of the rules); every other flag is unchanged. -/
def flagsWritten : Instr → List Flag
  -- ADC, SBC (R250, R251)
  | .adcIndX _ | .adcZp _ | .adcImm _ | .adcAbs _ | .adcIndY _ | .adcZpInd _ | .adcZpX _ | .adcAbsY _
  | .adcAbsX _ | .sbcIndX _ | .sbcZp _ | .sbcImm _ | .sbcAbs _ | .sbcIndY _ | .sbcZpInd _ | .sbcZpX _
  | .sbcAbsY _ | .sbcAbsX _ => [.c, .v, .z, .n]
  -- compares, shifts and rotates (R252 to R254, R280 to R283)
  | .cmpIndX _ | .cmpZp _ | .cmpImm _ | .cmpAbs _ | .cmpIndY _ | .cmpZpInd _ | .cmpZpX _ | .cmpAbsY _
  | .cmpAbsX _ | .cpxImm _ | .cpxZp _ | .cpxAbs _ | .cpyImm _ | .cpyZp _ | .cpyAbs _ | .aslZp _ | .aslA
  | .aslAbs _ | .aslZpX _ | .aslAbsX _ | .lsrZp _ | .lsrA | .lsrAbs _ | .lsrZpX _ | .lsrAbsX _ | .rolZp _
  | .rolA | .rolAbs _ | .rolZpX _ | .rolAbsX _ | .rorZp _ | .rorA | .rorAbs _ | .rorZpX _ | .rorAbsX _ => [.c, .z, .n]
  -- results (R41, R45)
  | .ldaIndX _ | .ldaZp _ | .ldaImm _ | .ldaAbs _ | .ldaIndY _ | .ldaZpInd _ | .ldaZpX _ | .ldaAbsY _
  | .ldaAbsX _ | .ldxImm _ | .ldxZp _ | .ldxAbs _ | .ldxZpY _ | .ldxAbsY _ | .ldyImm _ | .ldyZp _
  | .ldyAbs _ | .ldyZpX _ | .ldyAbsX _ | .tax | .tay | .txa | .tya | .tsx | .pla | .plx | .ply | .incA
  | .incZp _ | .incAbs _ | .incZpX _ | .incAbsX _ | .decA | .decZp _ | .decAbs _ | .decZpX _ | .decAbsX _
  | .inx | .dex | .iny | .dey | .andIndX _ | .andZp _ | .andImm _ | .andAbs _ | .andIndY _ | .andZpInd _
  | .andZpX _ | .andAbsY _ | .andAbsX _ | .oraIndX _ | .oraZp _ | .oraImm _ | .oraAbs _ | .oraIndY _
  | .oraZpInd _ | .oraZpX _ | .oraAbsY _ | .oraAbsX _ | .eorIndX _ | .eorZp _ | .eorImm _ | .eorAbs _
  | .eorIndY _ | .eorZpInd _ | .eorZpX _ | .eorAbsY _ | .eorAbsX _ => [.z, .n]
  -- BIT in its memory forms (R303)
  | .bitZp _ | .bitAbs _ | .bitZpX _ | .bitAbsX _ => [.z, .v, .n]
  -- BIT immediate, TSB, TRB (R303 to R305)
  | .bitImm _ | .tsbZp _ | .tsbAbs _ | .trbZp _ | .trbAbs _ => [.z]
  -- PLP, RTI (R237, R323)
  | .plp | .rti => [.c, .z, .i, .d, .b, .u, .v, .n]
  -- BRK (R324)
  | .brk => [.i, .d]
  -- R350, R351
  | .clc | .sec => [.c]
  -- R352, R353
  | .cli | .sei => [.i]
  -- R354, R355
  | .cld | .sed => [.d]
  -- R356
  | .clv => [.v]
  -- stores, pushes, jumps, branches, NOPs, RMBn, SMBn, BBRn, BBSn, WAI, STP, TXS
  | .staIndX _ | .staZp _ | .staAbs _ | .staIndY _ | .staZpInd _ | .staZpX _ | .staAbsY _ | .staAbsX _
  | .stxZp _ | .stxAbs _ | .stxZpY _ | .styZp _ | .styAbs _ | .styZpX _ | .stzZp _ | .stzZpX _ | .stzAbs _
  | .stzAbsX _ | .txs | .pha | .phx | .phy | .php | .jmpAbs _ | .jmpInd _ | .jmpAbsIndX _ | .jsr _ | .rts
  | .bcc _ | .bcs _ | .beq _ | .bne _ | .bmi _ | .bpl _ | .bvc _ | .bvs _ | .bra _ | .nop | .rmb0 _
  | .rmb1 _ | .rmb2 _ | .rmb3 _ | .rmb4 _ | .rmb5 _ | .rmb6 _ | .rmb7 _ | .smb0 _ | .smb1 _ | .smb2 _
  | .smb3 _ | .smb4 _ | .smb5 _ | .smb6 _ | .smb7 _ | .bbr0 _ _ | .bbr1 _ _ | .bbr2 _ _ | .bbr3 _ _
  | .bbr4 _ _ | .bbr5 _ _ | .bbr6 _ _ | .bbr7 _ _ | .bbs0 _ _ | .bbs1 _ _ | .bbs2 _ _ | .bbs3 _ _
  | .bbs4 _ _ | .bbs5 _ _ | .bbs6 _ _ | .bbs7 _ _ | .nop02 _ | .nop22 _ | .nop42 _ | .nop44 _ | .nop54 _
  | .nop5C _ | .nop62 _ | .nop82 _ | .nopC2 _ | .nopD4 _ | .nopDC _ | .nopE2 _ | .nopF4 _ | .nopFC _ | .wai
  | .stp | .nop03 | .nop0B | .nop13 | .nop1B | .nop23 | .nop2B | .nop33 | .nop3B | .nop43 | .nop4B | .nop53
  | .nop5B | .nop63 | .nop6B | .nop73 | .nop7B | .nop83 | .nop8B | .nop93 | .nop9B | .nopA3 | .nopAB
  | .nopB3 | .nopBB | .nopC3 | .nopD3 | .nopE3 | .nopEB | .nopF3 | .nopFB => []

/-- The registers an instruction may write after its operand bytes (R31 to R35); every other register is unchanged. -/
def regsWritten : Instr → List Reg
  -- R31
  | .ldaIndX _ | .ldaZp _ | .ldaImm _ | .ldaAbs _ | .ldaIndY _ | .ldaZpInd _ | .ldaZpX _ | .ldaAbsY _
  | .ldaAbsX _ | .txa | .tya | .adcIndX _ | .adcZp _ | .adcImm _ | .adcAbs _ | .adcIndY _ | .adcZpInd _
  | .adcZpX _ | .adcAbsY _ | .adcAbsX _ | .sbcIndX _ | .sbcZp _ | .sbcImm _ | .sbcAbs _ | .sbcIndY _
  | .sbcZpInd _ | .sbcZpX _ | .sbcAbsY _ | .sbcAbsX _ | .andIndX _ | .andZp _ | .andImm _ | .andAbs _
  | .andIndY _ | .andZpInd _ | .andZpX _ | .andAbsY _ | .andAbsX _ | .oraIndX _ | .oraZp _ | .oraImm _
  | .oraAbs _ | .oraIndY _ | .oraZpInd _ | .oraZpX _ | .oraAbsY _ | .oraAbsX _ | .eorIndX _ | .eorZp _
  | .eorImm _ | .eorAbs _ | .eorIndY _ | .eorZpInd _ | .eorZpX _ | .eorAbsY _ | .eorAbsX _ | .incA | .decA
  | .aslA | .lsrA | .rolA | .rorA => [.a]
  -- R32
  | .ldxImm _ | .ldxZp _ | .ldxAbs _ | .ldxZpY _ | .ldxAbsY _ | .tax | .tsx | .inx | .dex => [.x]
  -- R33
  | .ldyImm _ | .ldyZp _ | .ldyAbs _ | .ldyZpX _ | .ldyAbsX _ | .tay | .iny | .dey => [.y]
  -- R234
  | .pla => [.a, .sp]
  -- R235
  | .plx => [.x, .sp]
  -- R236
  | .ply => [.y, .sp]
  -- R34
  | .txs | .pha | .phx | .phy | .php | .plp => [.sp]
  -- R34, R35
  | .jsr _ | .rts | .rti | .brk => [.sp, .pc]
  -- R35
  | .jmpAbs _ | .jmpInd _ | .jmpAbsIndX _ | .bcc _ | .bcs _ | .beq _ | .bne _ | .bmi _ | .bpl _ | .bvc _
  | .bvs _ | .bra _ | .bbr0 _ _ | .bbr1 _ _ | .bbr2 _ _ | .bbr3 _ _ | .bbr4 _ _ | .bbr5 _ _ | .bbr6 _ _
  | .bbr7 _ _ | .bbs0 _ _ | .bbs1 _ _ | .bbs2 _ _ | .bbs3 _ _ | .bbs4 _ _ | .bbs5 _ _ | .bbs6 _ _
  | .bbs7 _ _ => [.pc]
  -- everything else
  | .staIndX _ | .staZp _ | .staAbs _ | .staIndY _ | .staZpInd _ | .staZpX _ | .staAbsY _ | .staAbsX _
  | .stxZp _ | .stxAbs _ | .stxZpY _ | .styZp _ | .styAbs _ | .styZpX _ | .stzZp _ | .stzZpX _ | .stzAbs _
  | .stzAbsX _ | .cmpIndX _ | .cmpZp _ | .cmpImm _ | .cmpAbs _ | .cmpIndY _ | .cmpZpInd _ | .cmpZpX _
  | .cmpAbsY _ | .cmpAbsX _ | .cpxImm _ | .cpxZp _ | .cpxAbs _ | .cpyImm _ | .cpyZp _ | .cpyAbs _ | .incZp _
  | .incAbs _ | .incZpX _ | .incAbsX _ | .decZp _ | .decAbs _ | .decZpX _ | .decAbsX _ | .aslZp _
  | .aslAbs _ | .aslZpX _ | .aslAbsX _ | .lsrZp _ | .lsrAbs _ | .lsrZpX _ | .lsrAbsX _ | .rolZp _
  | .rolAbs _ | .rolZpX _ | .rolAbsX _ | .rorZp _ | .rorAbs _ | .rorZpX _ | .rorAbsX _ | .bitZp _
  | .bitAbs _ | .bitZpX _ | .bitAbsX _ | .bitImm _ | .tsbZp _ | .tsbAbs _ | .trbZp _ | .trbAbs _ | .clc
  | .sec | .cli | .sei | .cld | .sed | .clv | .nop | .rmb0 _ | .rmb1 _ | .rmb2 _ | .rmb3 _ | .rmb4 _
  | .rmb5 _ | .rmb6 _ | .rmb7 _ | .smb0 _ | .smb1 _ | .smb2 _ | .smb3 _ | .smb4 _ | .smb5 _ | .smb6 _
  | .smb7 _ | .nop02 _ | .nop22 _ | .nop42 _ | .nop44 _ | .nop54 _ | .nop5C _ | .nop62 _ | .nop82 _
  | .nopC2 _ | .nopD4 _ | .nopDC _ | .nopE2 _ | .nopF4 _ | .nopFC _ | .wai | .stp | .nop03 | .nop0B | .nop13
  | .nop1B | .nop23 | .nop2B | .nop33 | .nop3B | .nop43 | .nop4B | .nop53 | .nop5B | .nop63 | .nop6B
  | .nop73 | .nop7B | .nop83 | .nop8B | .nop93 | .nop9B | .nopA3 | .nopAB | .nopB3 | .nopBB | .nopC3
  | .nopD3 | .nopE3 | .nopEB | .nopF3 | .nopFB => []

/-- The addresses an instruction stores to, computed as its meaning computes them (R82, R96). -/
def storedBytes : Instr → State → List Word
  | .staIndX o, s => [effectiveAddr (.indX o) s]
  | .staZp o, s => [effectiveAddr (.zp o) s]
  | .staAbs w, s => [effectiveAddr (.abs w) s]
  | .staIndY o, s => [effectiveAddr (.indY o) s]
  | .staZpInd o, s => [effectiveAddr (.zpInd o) s]
  | .staZpX o, s => [effectiveAddr (.zpX o) s]
  | .staAbsY w, s => [effectiveAddr (.absY w) s]
  | .staAbsX w, s => [effectiveAddr (.absX w) s]
  | .stxZp o, s => [effectiveAddr (.zp o) s]
  | .stxAbs w, s => [effectiveAddr (.abs w) s]
  | .stxZpY o, s => [effectiveAddr (.zpY o) s]
  | .styZp o, s => [effectiveAddr (.zp o) s]
  | .styAbs w, s => [effectiveAddr (.abs w) s]
  | .styZpX o, s => [effectiveAddr (.zpX o) s]
  | .stzZp o, s => [effectiveAddr (.zp o) s]
  | .stzZpX o, s => [effectiveAddr (.zpX o) s]
  | .stzAbs w, s => [effectiveAddr (.abs w) s]
  | .stzAbsX w, s => [effectiveAddr (.absX w) s]
  | .pha, s => [stackAddr s.sp]
  | .phx, s => [stackAddr s.sp]
  | .phy, s => [stackAddr s.sp]
  | .php, s => [stackAddr s.sp]
  | .incZp o, s => [effectiveAddr (.zp o) s]
  | .incAbs w, s => [effectiveAddr (.abs w) s]
  | .incZpX o, s => [effectiveAddr (.zpX o) s]
  | .incAbsX w, s => [effectiveAddr (.absX w) s]
  | .decZp o, s => [effectiveAddr (.zp o) s]
  | .decAbs w, s => [effectiveAddr (.abs w) s]
  | .decZpX o, s => [effectiveAddr (.zpX o) s]
  | .decAbsX w, s => [effectiveAddr (.absX w) s]
  | .aslZp o, s => [effectiveAddr (.zp o) s]
  | .aslAbs w, s => [effectiveAddr (.abs w) s]
  | .aslZpX o, s => [effectiveAddr (.zpX o) s]
  | .aslAbsX w, s => [effectiveAddr (.absX w) s]
  | .lsrZp o, s => [effectiveAddr (.zp o) s]
  | .lsrAbs w, s => [effectiveAddr (.abs w) s]
  | .lsrZpX o, s => [effectiveAddr (.zpX o) s]
  | .lsrAbsX w, s => [effectiveAddr (.absX w) s]
  | .rolZp o, s => [effectiveAddr (.zp o) s]
  | .rolAbs w, s => [effectiveAddr (.abs w) s]
  | .rolZpX o, s => [effectiveAddr (.zpX o) s]
  | .rolAbsX w, s => [effectiveAddr (.absX w) s]
  | .rorZp o, s => [effectiveAddr (.zp o) s]
  | .rorAbs w, s => [effectiveAddr (.abs w) s]
  | .rorZpX o, s => [effectiveAddr (.zpX o) s]
  | .rorAbsX w, s => [effectiveAddr (.absX w) s]
  | .tsbZp o, s => [effectiveAddr (.zp o) s]
  | .tsbAbs w, s => [effectiveAddr (.abs w) s]
  | .trbZp o, s => [effectiveAddr (.zp o) s]
  | .trbAbs w, s => [effectiveAddr (.abs w) s]
  | .jsr _, s => [stackAddr s.sp, stackAddr (s.sp - 1#8)]
  | .brk, s => [stackAddr s.sp, stackAddr (s.sp - 1#8), stackAddr (s.sp - 2#8)]
  | .rmb0 o, s => [effectiveAddr (.zp o) s]
  | .rmb1 o, s => [effectiveAddr (.zp o) s]
  | .rmb2 o, s => [effectiveAddr (.zp o) s]
  | .rmb3 o, s => [effectiveAddr (.zp o) s]
  | .rmb4 o, s => [effectiveAddr (.zp o) s]
  | .rmb5 o, s => [effectiveAddr (.zp o) s]
  | .rmb6 o, s => [effectiveAddr (.zp o) s]
  | .rmb7 o, s => [effectiveAddr (.zp o) s]
  | .smb0 o, s => [effectiveAddr (.zp o) s]
  | .smb1 o, s => [effectiveAddr (.zp o) s]
  | .smb2 o, s => [effectiveAddr (.zp o) s]
  | .smb3 o, s => [effectiveAddr (.zp o) s]
  | .smb4 o, s => [effectiveAddr (.zp o) s]
  | .smb5 o, s => [effectiveAddr (.zp o) s]
  | .smb6 o, s => [effectiveAddr (.zp o) s]
  | .smb7 o, s => [effectiveAddr (.zp o) s]
  -- forms that store nothing
  | .ldaIndX _, _ | .ldaZp _, _ | .ldaImm _, _ | .ldaAbs _, _ | .ldaIndY _, _ | .ldaZpInd _, _
  | .ldaZpX _, _ | .ldaAbsY _, _ | .ldaAbsX _, _ | .ldxImm _, _ | .ldxZp _, _ | .ldxAbs _, _ | .ldxZpY _, _
  | .ldxAbsY _, _ | .ldyImm _, _ | .ldyZp _, _ | .ldyAbs _, _ | .ldyZpX _, _ | .ldyAbsX _, _ | .tax, _
  | .tay, _ | .txa, _ | .tya, _ | .tsx, _ | .txs, _ | .pla, _ | .plx, _ | .ply, _ | .plp, _ | .adcIndX _, _
  | .adcZp _, _ | .adcImm _, _ | .adcAbs _, _ | .adcIndY _, _ | .adcZpInd _, _ | .adcZpX _, _
  | .adcAbsY _, _ | .adcAbsX _, _ | .sbcIndX _, _ | .sbcZp _, _ | .sbcImm _, _ | .sbcAbs _, _
  | .sbcIndY _, _ | .sbcZpInd _, _ | .sbcZpX _, _ | .sbcAbsY _, _ | .sbcAbsX _, _ | .cmpIndX _, _
  | .cmpZp _, _ | .cmpImm _, _ | .cmpAbs _, _ | .cmpIndY _, _ | .cmpZpInd _, _ | .cmpZpX _, _
  | .cmpAbsY _, _ | .cmpAbsX _, _ | .cpxImm _, _ | .cpxZp _, _ | .cpxAbs _, _ | .cpyImm _, _ | .cpyZp _, _
  | .cpyAbs _, _ | .incA, _ | .decA, _ | .inx, _ | .dex, _ | .iny, _ | .dey, _ | .aslA, _ | .lsrA, _
  | .rolA, _ | .rorA, _ | .andIndX _, _ | .andZp _, _ | .andImm _, _ | .andAbs _, _ | .andIndY _, _
  | .andZpInd _, _ | .andZpX _, _ | .andAbsY _, _ | .andAbsX _, _ | .oraIndX _, _ | .oraZp _, _
  | .oraImm _, _ | .oraAbs _, _ | .oraIndY _, _ | .oraZpInd _, _ | .oraZpX _, _ | .oraAbsY _, _
  | .oraAbsX _, _ | .eorIndX _, _ | .eorZp _, _ | .eorImm _, _ | .eorAbs _, _ | .eorIndY _, _
  | .eorZpInd _, _ | .eorZpX _, _ | .eorAbsY _, _ | .eorAbsX _, _ | .bitZp _, _ | .bitAbs _, _
  | .bitZpX _, _ | .bitAbsX _, _ | .bitImm _, _ | .jmpAbs _, _ | .jmpInd _, _ | .jmpAbsIndX _, _ | .rts, _
  | .rti, _ | .bcc _, _ | .bcs _, _ | .beq _, _ | .bne _, _ | .bmi _, _ | .bpl _, _ | .bvc _, _ | .bvs _, _
  | .bra _, _ | .clc, _ | .sec, _ | .cli, _ | .sei, _ | .cld, _ | .sed, _ | .clv, _ | .nop, _ | .bbr0 _ _, _
  | .bbr1 _ _, _ | .bbr2 _ _, _ | .bbr3 _ _, _ | .bbr4 _ _, _ | .bbr5 _ _, _ | .bbr6 _ _, _ | .bbr7 _ _, _
  | .bbs0 _ _, _ | .bbs1 _ _, _ | .bbs2 _ _, _ | .bbs3 _ _, _ | .bbs4 _ _, _ | .bbs5 _ _, _ | .bbs6 _ _, _
  | .bbs7 _ _, _ | .nop02 _, _ | .nop22 _, _ | .nop42 _, _ | .nop44 _, _ | .nop54 _, _ | .nop5C _, _
  | .nop62 _, _ | .nop82 _, _ | .nopC2 _, _ | .nopD4 _, _ | .nopDC _, _ | .nopE2 _, _ | .nopF4 _, _
  | .nopFC _, _ | .wai, _ | .stp, _ | .nop03, _ | .nop0B, _ | .nop13, _ | .nop1B, _ | .nop23, _ | .nop2B, _
  | .nop33, _ | .nop3B, _ | .nop43, _ | .nop4B, _ | .nop53, _ | .nop5B, _ | .nop63, _ | .nop6B, _
  | .nop73, _ | .nop7B, _ | .nop83, _ | .nop8B, _ | .nop93, _ | .nop9B, _ | .nopA3, _ | .nopAB, _
  | .nopB3, _ | .nopBB, _ | .nopC3, _ | .nopD3, _ | .nopE3, _ | .nopEB, _ | .nopF3, _ | .nopFB, _ => []

/-- The instructions whose effect or bonus depends on the variant (R124, R131): JMP indirect, BRK, and the shifts in
AbsoluteX mode. -/
def variantSwitched : Instr → Bool
  | .jmpInd _ | .brk | .aslAbsX _ | .lsrAbsX _ | .rolAbsX _ | .rorAbsX _ => true
  | .ldaIndX _ | .ldaZp _ | .ldaImm _ | .ldaAbs _ | .ldaIndY _ | .ldaZpInd _ | .ldaZpX _ | .ldaAbsY _
  | .ldaAbsX _ | .ldxImm _ | .ldxZp _ | .ldxAbs _ | .ldxZpY _ | .ldxAbsY _ | .ldyImm _ | .ldyZp _
  | .ldyAbs _ | .ldyZpX _ | .ldyAbsX _ | .staIndX _ | .staZp _ | .staAbs _ | .staIndY _ | .staZpInd _
  | .staZpX _ | .staAbsY _ | .staAbsX _ | .stxZp _ | .stxAbs _ | .stxZpY _ | .styZp _ | .styAbs _
  | .styZpX _ | .stzZp _ | .stzZpX _ | .stzAbs _ | .stzAbsX _ | .tax | .tay | .txa | .tya | .tsx | .txs
  | .pha | .phx | .phy | .php | .pla | .plx | .ply | .plp | .adcIndX _ | .adcZp _ | .adcImm _ | .adcAbs _
  | .adcIndY _ | .adcZpInd _ | .adcZpX _ | .adcAbsY _ | .adcAbsX _ | .sbcIndX _ | .sbcZp _ | .sbcImm _
  | .sbcAbs _ | .sbcIndY _ | .sbcZpInd _ | .sbcZpX _ | .sbcAbsY _ | .sbcAbsX _ | .cmpIndX _ | .cmpZp _
  | .cmpImm _ | .cmpAbs _ | .cmpIndY _ | .cmpZpInd _ | .cmpZpX _ | .cmpAbsY _ | .cmpAbsX _ | .cpxImm _
  | .cpxZp _ | .cpxAbs _ | .cpyImm _ | .cpyZp _ | .cpyAbs _ | .incA | .incZp _ | .incAbs _ | .incZpX _
  | .incAbsX _ | .decA | .decZp _ | .decAbs _ | .decZpX _ | .decAbsX _ | .inx | .dex | .iny | .dey
  | .aslZp _ | .aslA | .aslAbs _ | .aslZpX _ | .lsrZp _ | .lsrA | .lsrAbs _ | .lsrZpX _ | .rolZp _ | .rolA
  | .rolAbs _ | .rolZpX _ | .rorZp _ | .rorA | .rorAbs _ | .rorZpX _ | .andIndX _ | .andZp _ | .andImm _
  | .andAbs _ | .andIndY _ | .andZpInd _ | .andZpX _ | .andAbsY _ | .andAbsX _ | .oraIndX _ | .oraZp _
  | .oraImm _ | .oraAbs _ | .oraIndY _ | .oraZpInd _ | .oraZpX _ | .oraAbsY _ | .oraAbsX _ | .eorIndX _
  | .eorZp _ | .eorImm _ | .eorAbs _ | .eorIndY _ | .eorZpInd _ | .eorZpX _ | .eorAbsY _ | .eorAbsX _
  | .bitZp _ | .bitAbs _ | .bitZpX _ | .bitAbsX _ | .bitImm _ | .tsbZp _ | .tsbAbs _ | .trbZp _ | .trbAbs _
  | .jmpAbs _ | .jmpAbsIndX _ | .jsr _ | .rts | .rti | .bcc _ | .bcs _ | .beq _ | .bne _ | .bmi _ | .bpl _
  | .bvc _ | .bvs _ | .bra _ | .clc | .sec | .cli | .sei | .cld | .sed | .clv | .nop | .rmb0 _ | .rmb1 _
  | .rmb2 _ | .rmb3 _ | .rmb4 _ | .rmb5 _ | .rmb6 _ | .rmb7 _ | .smb0 _ | .smb1 _ | .smb2 _ | .smb3 _
  | .smb4 _ | .smb5 _ | .smb6 _ | .smb7 _ | .bbr0 _ _ | .bbr1 _ _ | .bbr2 _ _ | .bbr3 _ _ | .bbr4 _ _
  | .bbr5 _ _ | .bbr6 _ _ | .bbr7 _ _ | .bbs0 _ _ | .bbs1 _ _ | .bbs2 _ _ | .bbs3 _ _ | .bbs4 _ _
  | .bbs5 _ _ | .bbs6 _ _ | .bbs7 _ _ | .nop02 _ | .nop22 _ | .nop42 _ | .nop44 _ | .nop54 _ | .nop5C _
  | .nop62 _ | .nop82 _ | .nopC2 _ | .nopD4 _ | .nopDC _ | .nopE2 _ | .nopF4 _ | .nopFC _ | .wai | .stp
  | .nop03 | .nop0B | .nop13 | .nop1B | .nop23 | .nop2B | .nop33 | .nop3B | .nop43 | .nop4B | .nop53
  | .nop5B | .nop63 | .nop6B | .nop73 | .nop7B | .nop83 | .nop8B | .nop93 | .nop9B | .nopA3 | .nopAB
  | .nopB3 | .nopBB | .nopC3 | .nopD3 | .nopE3 | .nopEB | .nopF3 | .nopFB => false

/-- An instruction's opcode byte and whether NMOS has it, as the "Encoding" line of its rule says. -/
def encodedAs (i : Instr) (opcode : Byte) (onNmos : Bool) : Prop := i.opcode = opcode ∧ i.onNmos = onNmos

/-- The 105 opcode bytes that are undefined on NMOS, in the order of R130. -/
def rule130Bytes : List Byte :=
  [0x02#8, 0x03#8, 0x04#8, 0x07#8, 0x0B#8, 0x0C#8, 0x0F#8, 0x12#8, 0x13#8, 0x14#8, 0x17#8, 0x1A#8,
   0x1B#8, 0x1C#8, 0x1F#8, 0x22#8, 0x23#8, 0x27#8, 0x2B#8, 0x2F#8, 0x32#8, 0x33#8, 0x34#8, 0x37#8,
   0x3A#8, 0x3B#8, 0x3C#8, 0x3F#8, 0x42#8, 0x43#8, 0x44#8, 0x47#8, 0x4B#8, 0x4F#8, 0x52#8, 0x53#8,
   0x54#8, 0x57#8, 0x5A#8, 0x5B#8, 0x5C#8, 0x5F#8, 0x62#8, 0x63#8, 0x64#8, 0x67#8, 0x6B#8, 0x6F#8,
   0x72#8, 0x73#8, 0x74#8, 0x77#8, 0x7A#8, 0x7B#8, 0x7C#8, 0x7F#8, 0x80#8, 0x82#8, 0x83#8, 0x87#8,
   0x89#8, 0x8B#8, 0x8F#8, 0x92#8, 0x93#8, 0x97#8, 0x9B#8, 0x9C#8, 0x9E#8, 0x9F#8, 0xA3#8, 0xA7#8,
   0xAB#8, 0xAF#8, 0xB2#8, 0xB3#8, 0xB7#8, 0xBB#8, 0xBF#8, 0xC2#8, 0xC3#8, 0xC7#8, 0xCB#8, 0xCF#8,
   0xD2#8, 0xD3#8, 0xD4#8, 0xD7#8, 0xDA#8, 0xDB#8, 0xDC#8, 0xDF#8, 0xE2#8, 0xE3#8, 0xE7#8, 0xEB#8,
   0xEF#8, 0xF2#8, 0xF3#8, 0xF4#8, 0xF7#8, 0xFA#8, 0xFB#8, 0xFC#8, 0xFF#8]

/-- A state in which `step()` makes a zero-budget transition (R410): reset once, not halted, nothing owed. -/
def atTransition (s : State) : Prop := s.started = true ∧ s.halted = false ∧ s.cycles = 0

/-- A state in which `step()` dispatches an instruction (R410 item 4): no request that is served first, and no wait
that goes on. -/
def dispatches (s : State) : Prop :=
  atTransition s ∧ s.resetPending = false ∧ s.nmiPending = false ∧
    (s.irqPending = true → s.flag .i = true) ∧ (s.waiting = true → s.irqPending = true)

/-- The state after a list of accesses, oldest first: the reads and the writes and nothing else. -/
def applyAccesses : List Access → State → State
  | [], s => s
  | .read a _ :: rest, s => applyAccesses rest (s.noteRead a)
  | .write a v :: rest, s => applyAccesses rest (s.memWrite a v)

/-- The reads of a list of accesses, oldest first, answer what the Bus has when they are made. -/
def readsAnswered : List Access → State → Prop
  | [], _ => True
  | .read a v :: rest, s => v = s.peek a ∧ readsAnswered rest (s.noteRead a)
  | .write a v :: rest, s => readsAnswered rest (s.memWrite a v)

/-- The state after a read-modify-write of a mode's effective address that writes `r` (R284). -/
def modified (m : Mode) (r : Byte) (s : State) : State :=
  { s with mem := storedMem m r s, bus := s.bus ++ modifyAccesses m r s }

/-- The state after a shift or rotate of memory: `r` written back, C from the outgoing bit, Z and N from `r`, and
on WDC65C02 the page-cross bonus (R280 to R283). -/
def shiftedMem (m : Mode) (r : Byte) (out : Bool) (s : State) : State :=
  { modified m r s with
    p := putZN r (putFlag .c out s.p)
    cycles := s.cycles + (if s.variant = .wdc65c02 then crossBonus m s else 0) }

/-- The state after a shift or rotate of A (R280 to R283). -/
def shiftedAcc (r : Byte) (out : Bool) (s : State) : State :=
  { s with a := r, p := putZN r (putFlag .c out s.p) }

/-- The carry as a byte, for the bit a rotate brings in (R282, R283). -/
def carryByte (s : State) : Byte := if s.flag .c then 0x01#8 else 0x00#8

/-- The cost of a taken branch from `base` to `target` beyond its base cycles (R330). -/
def takenCost (base target : Word) : Nat := if hi base = hi target then 1 else 2

end Sys2Proof.Machine
end

