-- ==== Sys2Proof/Certificates/Slice0/Obligations.lean ====
section
/-! DEFINITION. The statements for the provers. Each is about every state unless it says otherwise. What stands behind
the Bus and the table of base cycles are fields of the state, so a statement about every state is about every platform and
every cycle table (R6, log entries 2 and 5); `s.peek addr` is what the Bus would answer to a read of `addr` now. The
opcode bytes are those of the spec's tables R126, R128 and R129 (log entry 5). -/

open Sys2Proof Sys2Proof.Machine

/-! ### Encoding -/

/-- One word of each family, written out from R120, R122 and the tables R126, R128 and R129, decodes to its instruction;
the first five are the source's own (R125). -/
def Obligations.SpecWordsDecode : Prop :=
  decode .nmos [0xA9#8, 0x42#8] = .ok (.ldaImm 0x42#8, []) ∧
  decode .nmos [0x6C#8, 0xFF#8, 0x10#8] = .ok (.jmpInd 0x10FF#16, []) ∧
  decode .nmos [0x20#8, 0x10#8, 0x80#8] = .ok (.jsr 0x8010#16, []) ∧
  decode .nmos [0x60#8] = .ok (.rts, []) ∧
  decode .wdc65c02 [0x80#8, 0x10#8] = .ok (.bra 0x10#8, []) ∧
  decode .nmos [0x8D#8, 0x00#8, 0x02#8] = .ok (.staAbs 0x0200#16, []) ∧
  decode .nmos [0x48#8] = .ok (.pha, []) ∧
  decode .nmos [0x71#8, 0x86#8] = .ok (.adcIndY 0x86#8, []) ∧
  decode .nmos [0x7E#8, 0xFF#8, 0x10#8] = .ok (.rorAbsX 0x10FF#16, []) ∧
  decode .wdc65c02 [0x89#8, 0x80#8] = .ok (.bitImm 0x80#8, []) ∧
  decode .nmos [0x78#8] = .ok (.sei, []) ∧
  decode .wdc65c02 [0x37#8, 0x10#8] = .ok (.rmb3 0x10#8, []) ∧
  decode .wdc65c02 [0xBF#8, 0x20#8, 0x7F#8] = .ok (.bbs3 0x20#8 0x7F#8, []) ∧
  decode .wdc65c02 [0xCB#8] = .ok (.wai, []) ∧
  decode .wdc65c02 [0x5C#8, 0x00#8, 0x10#8] = .ok (.nop5C 0x1000#16, [])

/-- Decode and encode agree: every instruction a variant has, with every operand, is read back from its own bytes, and
what follows it is left (R120 to R123). -/
def Obligations.DecodeInvertsEncode : Prop :=
  ∀ (v : Variant) (i : Instr) (rest : List Byte),
    i.wellFormed v = true → decode v (encode i ++ rest) = .ok (i, rest)

/-- Whatever decodes is an instruction the variant has, of one to three bytes, and its encoding is the bytes it was read
from: no two byte strings stand for one instruction (R120, R121, R123). -/
def Obligations.EncodeInvertsDecode : Prop :=
  ∀ (v : Variant) (bytes rest : List Byte) (i : Instr),
    decode v bytes = .ok (i, rest) →
      encode i ++ rest = bytes ∧ i.wellFormed v = true ∧ 1 ≤ i.length ∧ i.length ≤ 3

/-- The counts of R133, the undefined bytes of R130, and the five rows whose base cycles differ between the variants
(R131) in the published table, the spec's default: NMOS has 151 rows, WDC65C02 has 256. -/
def Obligations.OpcodeTableCounts : Prop :=
  (List.range 256).countP (fun n => (opForm .nmos (BitVec.ofNat 8 n)).isSome) = 151 ∧
  (List.range 256).countP (fun n => (opForm .wdc65c02 (BitVec.ofNat 8 n)).isSome) = 256 ∧
  ((List.range 256).filter (fun n => (opForm .nmos (BitVec.ofNat 8 n)).isNone)).map (BitVec.ofNat 8) =
    rule130Bytes ∧
  (List.range 256).filter (fun n => (opForm .nmos (BitVec.ofNat 8 n)).isSome &&
    (baseCycles publishedCycles .nmos (BitVec.ofNat 8 n) !=
      baseCycles publishedCycles .wdc65c02 (BitVec.ofNat 8 n))) =
    [0x1E, 0x3E, 0x5E, 0x6C, 0x7E]

/-! ### Reset and the host -/

/-- `State.reset` holds the values R56 gives after the direct reset on WDC65C02: A, X, Y, SP, I, U, D, `Halted`,
`ResetPending`, `Waiting`, `Cycles`. The variant, the platform and the cycle table, PC from an empty memory and the
flags C, Z, V, N, B are the model's choices (log entries 1, 2, 5, 3 and 4), and it is what the direct reset gives a
newly constructed core. -/
def Obligations.ResetStateValues : Prop :=
  State.reset.a = 0x00#8 ∧ State.reset.x = 0x00#8 ∧ State.reset.y = 0x00#8 ∧ State.reset.sp = 0xFD#8 ∧
  State.reset.flag .i = true ∧ State.reset.flag .u = true ∧ State.reset.flag .d = false ∧
  State.reset.halted = false ∧ State.reset.waiting = false ∧ State.reset.resetPending = false ∧
  State.reset.nmiPending = false ∧ State.reset.irqPending = false ∧ State.reset.cycles = 7 ∧
  State.reset.pc = State.reset.peekWord 0xFFFC#16 0xFFFD#16 ∧
  State.reset.map = [] ∧ State.reset.answers = [] ∧ State.reset.costs = publishedCycles ∧
  State.reset = (State.construct .wdc65c02 { State.reset with p := 0x00#8 }).hostReset

/-- `ResetSequence()` on every state (R462): A, X, Y cleared, SP = 0xFD, I and U set, D cleared on WDC65C02 only, PC
the word two reads of the Bus at 0xFFFC and 0xFFFD answer, `Halted`, `Waiting` and `ResetPending` cleared, no write;
everything else is kept. That C, Z, V, N, B and the two other latches are kept are the spec's decisions D4, D16 and
D13. -/
def Obligations.ResetSequenceEffect : Prop :=
  ∀ s : State,
    ∃ q : Byte,
      (getFlag .i q = true ∧ getFlag .u q = true ∧
        getFlag .d q = (if s.variant = .wdc65c02 then false else s.flag .d) ∧
        getFlag .c q = s.flag .c ∧ getFlag .z q = s.flag .z ∧ getFlag .v q = s.flag .v ∧
        getFlag .n q = s.flag .n ∧ getFlag .b q = s.flag .b) ∧
      s.resetSequence =
        { s with
          a := 0x00#8, x := 0x00#8, y := 0x00#8, sp := 0xFD#8, p := q
          pc := s.peekWord 0xFFFC#16 0xFFFD#16
          halted := false, waiting := false, resetPending := false
          bus := s.bus ++ readsOf [0xFFFC#16, 0xFFFD#16] s }

/-- The direct reset (R461): the sequence and a budget of 6 on NMOS, 7 on WDC65C02, whatever was left; the next 6 or 7
steps only count down. -/
def Obligations.DirectResetEffect : Prop :=
  ∀ s : State,
    s.hostReset = { s.resetSequence with cycles := (if s.variant = .nmos then 6 else 7), started := true } ∧
    core.run (if s.variant = .nmos then 6 else 7) s.hostReset = .next { s.hostReset with cycles := 0 }

/-- Reset through the latch (R463): the core counts its budget down, then the next step performs the reset and takes one
of its 6 or 7 cycles, with NMI and IRQ requests left as they are; a halted core resets at the very next step,
whatever its budget. -/
def Obligations.ResetThroughLatch : Prop :=
  ∀ s : State, s.started = true →
    (s.halted = false →
      core.run (s.cycles + 1) s.setReset =
        .next { State.resetSequence { s with cycles := 0 } with
          cycles := (if s.variant = .nmos then 5 else 6) }) ∧
    (s.halted = true →
      step s.setReset = .next { s.resetSequence with cycles := (if s.variant = .nmos then 5 else 6) })

/-- Construction makes no Bus access, fixes the three parameters (the variant, what stands behind the Bus, the cycle
table) and leaves the three request latches clear; a step before the first reset is refused, also after a request, and
one after it is not (R57, R460, R464; the latches are decision D5). -/
def Obligations.StepBeforeResetRefused : Prop :=
  ∀ (v : Variant) (u : State),
    (State.construct v u).variant = v ∧ (State.construct v u).bus = [] ∧
    (State.construct v u).mem = u.mem ∧ (State.construct v u).map = u.map ∧
    (State.construct v u).answers = u.answers ∧ (State.construct v u).costs = u.costs ∧
    (State.construct v u).resetPending = false ∧ (State.construct v u).nmiPending = false ∧
    (State.construct v u).irqPending = false ∧
    step (State.construct v u) = .refused .stepBeforeReset ∧
    step (State.construct v u).setReset = .refused .stepBeforeReset ∧
    ∃ t, step (State.construct v u).hostReset = .next t

/-! ### The step driver -/

/-- A core that owes cycles only counts them down: `k` steps take `k` cycles off, and change nothing else, whatever the
request latches hold (R410, R475). -/
def Obligations.OwedCyclesCountDown : Prop :=
  ∀ (s : State) (k : Nat), s.started = true → s.halted = false → k ≤ s.cycles →
    core.run k s = .next { s with cycles := s.cycles - k }

/-- A step that dispatches runs the decoded instruction (R413, R410): when the bytes at PC decode to `i`, its bytes
are read in ascending addresses, PC goes past them, the wait of WAI has ended, the meaning of `i` runs, its base
cycles are added and one cycle is taken. -/
def Obligations.StepRunsDecodedInstruction : Prop :=
  ∀ (s : State) (i : Instr) (rest : List Byte),
    dispatches s → decode s.variant s.bytesAtPc = .ok (i, rest) →
      step s =
        match exec i
          { s with
            waiting := false
            pc := s.pc + BitVec.ofNat 16 i.length
            bus := s.bus ++ readsOf ((List.range i.length).map fun k => s.pc + BitVec.ofNat 16 k) s } with
        | .next u => .next { u with cycles := u.cycles + baseCycles s.costs s.variant i.opcode - 1 }
        | .fault r => .fault r
        | .refused r => .refused r

/-- An undefined byte on NMOS (R393): the opcode is read and PC goes past it, `Halted` is set, nothing is charged and no
cycle is taken; registers, flags and memory stay. -/
def Obligations.UndefinedByteHaltsNmos : Prop :=
  ∀ s : State,
    dispatches s → s.variant = .nmos → s.waiting = false → s.peek s.pc ∈ rule130Bytes →
      step s = .next { s with
        pc := s.pc + 1#16
        halted := true
        bus := s.bus ++ [.read s.pc (s.peek s.pc)] }

/-- A halted core stays as it is for any number of steps, and keeps an NMI or IRQ request (R395, R420); only a reset
leads out of it. That a reset request is served whatever the budget is the spec's decision D3. -/
def Obligations.HaltedUntilReset : Prop :=
  ∀ (s : State) (n : Nat), s.started = true → s.halted = true → s.resetPending = false →
    core.run n s = .next s ∧ core.run n s.setNmi = .next s.setNmi ∧ core.run n s.setIrq = .next s.setIrq ∧
    (s.setReset.halted = true ∧ ∃ t, step s.setReset = .next t ∧ t.halted = false) ∧
    s.hostReset.halted = false

/-- The wait and the wake of WAI (R391, the spec's decision D2): with no request nothing changes; a masked IRQ ends the
wait, the next instruction is dispatched in the same step and the request stays; every other request is served as
ever and ends the wait. -/
def Obligations.WaitAndWake : Prop :=
  ∀ s : State, atTransition s → s.waiting = true → s.resetPending = false →
    (s.nmiPending = false → s.irqPending = false → step s = .next s) ∧
    (s.nmiPending = false → s.irqPending = true → s.flag .i = true →
      step s = step { s with waiting := false } ∧ ∃ t, step s = .next t ∧ t.irqPending = true) ∧
    (s.nmiPending = true → ∃ t, step s = .next t ∧ t.waiting = false ∧ t.nmiPending = false) ∧
    (s.nmiPending = false → s.irqPending = true → s.flag .i = false →
      ∃ t, step s = .next t ∧ t.waiting = false ∧ t.irqPending = false)

/-- NMI entry (R411, R414), whatever I and an IRQ request are: PC high, PC low and P with B = 0 and U = 1 go to the stack,
I is set, D is cleared on WDC65C02 only, PC is the word at 0xFFFA, the request and the wait end, and 7 cycles less
one are owed. No opcode is fetched. -/
def Obligations.NmiEntryEffect : Prop :=
  ∀ s : State, atTransition s → s.resetPending = false → s.nmiPending = true →
    step s = .next { s with
      sp := s.sp - 3#8
      p := (if s.variant = .wdc65c02 then putFlag .d false (putFlag .i true s.p) else putFlag .i true s.p)
      pc := s.peekWord 0xFFFA#16 0xFFFB#16
      mem := pushedFrameMem s.pc ((s.p ||| 0x20#8) &&& 0xEF#8) s
      bus := s.bus ++ entryAccesses s.pc ((s.p ||| 0x20#8) &&& 0xEF#8) 0xFFFA#16 s
      nmiPending := false
      waiting := false
      cycles := 6 }

/-- IRQ entry (R412, R414) when I = 0; when I = 1 the request is neither served nor discarded. -/
def Obligations.IrqEntryEffect : Prop :=
  ∀ s : State, atTransition s → s.resetPending = false → s.nmiPending = false → s.irqPending = true →
    (s.flag .i = false →
      step s = .next { s with
        sp := s.sp - 3#8
        p := (if s.variant = .wdc65c02 then putFlag .d false (putFlag .i true s.p) else putFlag .i true s.p)
        pc := s.peekWord 0xFFFE#16 0xFFFF#16
        mem := pushedFrameMem s.pc ((s.p ||| 0x20#8) &&& 0xEF#8) s
        bus := s.bus ++ entryAccesses s.pc ((s.p ||| 0x20#8) &&& 0xEF#8) 0xFFFE#16 s
        irqPending := false
        waiting := false
        cycles := 6 }) ∧
    (s.flag .i = true → ∃ t, step s = .next t ∧ t.irqPending = true)

/-- A step sets no request latch, and clears one only by serving it (R47, R416): `ResetPending` with the reset,
`NMIPending` with NMI entry, `IRQPending` with IRQ entry, at most one of them (R415). -/
def Obligations.LatchesClearedByTheirEntryOnly : Prop :=
  ∀ s t : State, step s = .next t →
    (t.resetPending = true → s.resetPending = true) ∧ (t.nmiPending = true → s.nmiPending = true) ∧
    (t.irqPending = true → s.irqPending = true) ∧
    (s.resetPending = true → t.resetPending = false →
      t.pc = s.peekWord 0xFFFC#16 0xFFFD#16 ∧ t.sp = 0xFD#8 ∧
        t.nmiPending = s.nmiPending ∧ t.irqPending = s.irqPending) ∧
    (s.nmiPending = true → t.nmiPending = false →
      t.pc = s.peekWord 0xFFFA#16 0xFFFB#16 ∧ t.sp = s.sp - 3#8 ∧ t.irqPending = s.irqPending) ∧
    (s.irqPending = true → t.irqPending = false →
      t.pc = s.peekWord 0xFFFE#16 0xFFFF#16 ∧ t.sp = s.sp - 3#8 ∧ s.flag .i = false)

/-- From the first reset on a step always answers a next state: no exception is raised from inside `step()` (R417), no
access fails (R80); and it keeps the three parameters (R6, R46), the devices' answers and the reset that has run. -/
def Obligations.StepAlwaysAnswers : Prop :=
  ∀ s : State, s.started = true →
    ∃ t, step s = .next t ∧ t.started = true ∧ t.variant = s.variant ∧ t.map = s.map ∧ t.costs = s.costs ∧
      t.answers = s.answers

/-! ### Invariants -/

/-- The invariant of every state holds after a step from any state that meets it: memory in its canonical form, bit 5 of
P set (R38, R55 invariant 1), no wait on NMOS (R50). -/
def Obligations.StepKeepsInvariant : Prop :=
  ∀ s t : State, Inv s → step s = .next t → Inv t

/-- The reset state meets the invariant. -/
def Obligations.ResetMeetsInvariant : Prop := Inv State.reset

/-- Construction over a canonical memory meets the invariant, and every host action keeps it, writes to P included
(R470), and keeps the three parameters, which are fixed at construction (R6, R46, R460). -/
def Obligations.HostKeepsInvariant : Prop :=
  (∀ (v : Variant) (u : State), Memory.wf u.mem = true → Inv (State.construct v u)) ∧
  (∀ (act : HostAction) (s : State), Inv s → Inv (State.host act s)) ∧
  (∀ (act : HostAction) (s : State), (State.host act s).variant = s.variant ∧ (State.host act s).map = s.map ∧
    (State.host act s).costs = s.costs)

/-! ### The whole machine -/

/-- Every instruction completes in every state. It keeps the three parameters, the devices' answers and the request
latches (R6, R47), adds at most two cycles of bonus (R476), sets `Halted` only as STP and `Waiting` only as WAI, and
clears neither (R49, R50). -/
def Obligations.EveryInstructionCompletes : Prop :=
  ∀ (i : Instr) (s : State),
    ∃ t, exec i s = .next t ∧ t.variant = s.variant ∧ t.map = s.map ∧ t.costs = s.costs ∧
      t.answers = s.answers ∧ t.started = s.started ∧
      t.resetPending = s.resetPending ∧ t.nmiPending = s.nmiPending ∧ t.irqPending = s.irqPending ∧
      s.cycles ≤ t.cycles ∧ t.cycles ≤ s.cycles + 2 ∧
      t.halted = (s.halted || decide (i = .stp)) ∧ t.waiting = (s.waiting || decide (i = .wai))

/-- An instruction changes no flag but those its rule names (R12, R40 to R45). -/
def Obligations.FlagFrame : Prop :=
  ∀ (i : Instr) (s t : State) (f : Flag),
    exec i s = .next t → f ∉ flagsWritten i → t.flag f = s.flag f

/-- An instruction changes no register but those R31 to R35 say it writes. -/
def Obligations.RegisterFrame : Prop :=
  ∀ (i : Instr) (s t : State) (r : Reg),
    exec i s = .next t → r ∉ regsWritten i → regValue r t = regValue r s

/-- An instruction changes no byte of memory but those of RAM it stores to, so every other address reads as before
(R82, R87, R95): away from devices always, at a device as long as the instruction reads none, for which answer comes
is then the same. -/
def Obligations.MemoryFrame : Prop :=
  ∀ (i : Instr) (s t : State) (addr : Word),
    exec i s = .next t → (s.kindAt addr = .ram → addr ∉ storedBytes i s) →
      t.kindAt addr = s.kindAt addr ∧
      Memory.read t.mem addr.toNat = Memory.read s.mem addr.toNat ∧
      ((s.kindAt addr = .device → t.deviceReads = s.deviceReads) → t.peek addr = s.peek addr)

/-- In every step, memory changes by the writes on the Bus and by nothing else, and every read answers what the Bus
has when it is made (R87, R90, R92). On the platform of the model's log entry 2 a write lands in RAM and in RAM only,
and changes what no other address reads as; a device's read takes the platform's next answer. -/
def Obligations.MemoryFollowsTheBus : Prop :=
  (∀ s t : State, step s = .next t →
    ∃ accesses, t.bus = s.bus ++ accesses ∧ t.mem = (applyAccesses accesses s).mem ∧
      readsAnswered accesses s ∧ accesses.length ≤ 8) ∧
  (∀ (s : State) (addr b : Word) (v : Byte), Memory.wf s.mem = true →
    (s.kindAt addr = .ram → (s.memWrite addr v).peek addr = v) ∧
    (s.kindAt addr ≠ .ram → (s.memWrite addr v).mem = s.mem) ∧
    (b ≠ addr → (s.memWrite addr v).peek b = s.peek b) ∧
    (∀ h : s.deviceReads < s.answers.length, s.kindAt addr = .device →
      s.peek addr = s.answers[s.deviceReads] ∧ (s.noteRead addr).deviceReads = s.deviceReads + 1))

/-- No step sets the live Break bit, and PLP and RTI leave it clear (R39). -/
def Obligations.LiveBreakNeverSet : Prop :=
  (∀ s t : State, step s = .next t → t.flag .b = true → s.flag .b = true) ∧
  (∀ s t : State, (exec .plp s = .next t ∨ exec .rti s = .next t) → t.flag .b = false)

/-- The variants share the meaning of every instruction but JMP indirect, BRK and the AbsoluteX shifts, whose bonus
differs. For the 151 original opcodes this is R124 with R131; for the 105 that only WDC65C02 has, the clause about an
NMOS state is the model's choice (log entry 11, notes/assumptions/11.md): on NMOS they are never dispatched (R393). -/
def Obligations.VariantsAgree : Prop :=
  ∀ (i : Instr) (s : State), variantSwitched i = false →
    ∃ t : State, exec i { s with variant := .nmos } = .next { t with variant := .nmos } ∧
      exec i { s with variant := .wdc65c02 } = .next { t with variant := .wdc65c02 }

/-- ADC and SBC do not look at D (R256, the spec's decision D1): with D set or clear they do the same and keep D. -/
def Obligations.DecimalIgnored : Prop :=
  ∀ (o : Byte) (w : Word) (s : State) (on : Bool),
    ∀ f ∈ adcForms o w ++ sbcForms o w,
      ∃ t, exec f.instr s = .next t ∧ exec f.instr (s.setFlag .d on) = .next (t.setFlag .d on)

/-! ### Addressing -/

/-- The effective addresses of R163, R165 to R174 and R175, with their zero-page wraps, from the operand and the word
two Bus reads answer, the low byte first; PC is past the operand bytes. -/
def Obligations.EffectiveAddresses : Prop :=
  ∀ (o : Byte) (w : Word) (s : State),
    effectiveAddr (.imm o) s = s.pc - 1#16 ∧
    effectiveAddr (.zp o) s = mkWord 0x00#8 o ∧
    effectiveAddr (.zpX o) s = mkWord 0x00#8 (o + s.x) ∧
    effectiveAddr (.zpY o) s = mkWord 0x00#8 (o + s.y) ∧
    effectiveAddr (.abs w) s = w ∧
    (effectiveAddr (.absX w) s).toNat = (w.toNat + s.x.toNat) % 65536 ∧
    (effectiveAddr (.absY w) s).toNat = (w.toNat + s.y.toNat) % 65536 ∧
    effectiveAddr (.indX o) s = s.peekWord (mkWord 0x00#8 (o + s.x)) (mkWord 0x00#8 (o + s.x + 1#8)) ∧
    (effectiveAddr (.indY o) s).toNat =
      ((s.peekWord (mkWord 0x00#8 o) (mkWord 0x00#8 (o + 1#8))).toNat + s.y.toNat) % 65536 ∧
    effectiveAddr (.zpInd o) s = s.peekWord (mkWord 0x00#8 o) (mkWord 0x00#8 (o + 1#8)) ∧
    effectiveAddr (.ind w) s =
      s.peekWord w (if s.variant = .nmos ∧ lo w = 0xFF#8 then w &&& 0xFF00#16 else w + 1#16) ∧
    effectiveAddr (.absIndX w) s = s.peekWord (w + zext16 s.x) (w + zext16 s.x + 1#16) ∧
    ((effectiveAddr (.rel o) s).toNat : Int) = (s.pc.toNat + o.toInt) % 65536

/-- The page-cross signal (R177): for a byte index it is the carry out of the low byte, also when the sum wraps from
0xFFxx to 0x00xx. -/
def Obligations.PageCrossIsLowByteCarry : Prop :=
  (∀ (base : Word) (index : Byte),
    pageCrossed base (base + zext16 index) = decide (0xFF < (lo base).toNat + index.toNat)) ∧
  (∀ (base final : Word), pageCrossed base final = true ↔ hi base ≠ hi final)

/-! ### Loads, stores, transfers and the stack -/

/-- LDA, LDX and LDY in every mode (R201 to R203): the register is the operand, Z and N follow from it, the page-cross
bonus is charged, the operand is read once, and nothing else changes. In Immediate mode the handler's one read of the
operand byte (R163) is the fetch the driver made, so exec makes none (log entry 9). Constructors: the ldaForms,
ldxForms and ldyForms. -/
def Obligations.LoadResults : Prop :=
  ∀ (o : Byte) (w : Word) (s : State),
    (∀ f ∈ ldaForms o w, f.encoded ∧ exec f.instr s = .next { s with
      a := operandByte f.mode s, p := putZN (operandByte f.mode s) s.p
      cycles := s.cycles + crossBonus f.mode s, bus := s.bus ++ operandReads f.mode s }) ∧
    (∀ f ∈ ldxForms o w, f.encoded ∧ exec f.instr s = .next { s with
      x := operandByte f.mode s, p := putZN (operandByte f.mode s) s.p
      cycles := s.cycles + crossBonus f.mode s, bus := s.bus ++ operandReads f.mode s }) ∧
    (∀ f ∈ ldyForms o w, f.encoded ∧ exec f.instr s = .next { s with
      y := operandByte f.mode s, p := putZN (operandByte f.mode s) s.p
      cycles := s.cycles + crossBonus f.mode s, bus := s.bus ++ operandReads f.mode s })

/-- STA, STX, STY and STZ in every mode (R204 to R207): one write of the register (of 0) at the effective address, no
read of it, no flag, no bonus, nothing else; what memory then holds is the platform's (R80, log entry 2).
Constructors: the staForms, stxForms, styForms and stzForms. -/
def Obligations.StoreResults : Prop :=
  ∀ (o : Byte) (w : Word) (s : State),
    (∀ f ∈ staForms o w, f.encoded ∧ exec f.instr s =
      .next { s with mem := storedMem f.mode s.a s, bus := s.bus ++ storeAccesses f.mode s.a s }) ∧
    (∀ f ∈ stxForms o w, f.encoded ∧ exec f.instr s =
      .next { s with mem := storedMem f.mode s.x s, bus := s.bus ++ storeAccesses f.mode s.x s }) ∧
    (∀ f ∈ styForms o w, f.encoded ∧ exec f.instr s =
      .next { s with mem := storedMem f.mode s.y s, bus := s.bus ++ storeAccesses f.mode s.y s }) ∧
    (∀ f ∈ stzForms o w, f.encoded ∧ exec f.instr s =
      .next { s with mem := storedMem f.mode 0x00#8 s, bus := s.bus ++ storeAccesses f.mode 0x00#8 s })

/-- After a store in any mode the effective address of before reads as the byte stored if it is RAM, every other
address that is no device as before (ROM too, whatever was stored), and LDA from it gives A back with Z and N from it
(R90, R204, R201). -/
def Obligations.StoreThenLoadReturnsValue : Prop :=
  ∀ (o : Byte) (w : Word) (s : State), Memory.wf s.mem = true →
    ∀ f ∈ staForms o w,
      ∃ t, exec f.instr s = .next t ∧
        (∀ addr, s.kindAt addr ≠ .device →
          t.peek addr = if addr = effectiveAddr f.mode s ∧ s.kindAt addr = .ram then s.a else s.peek addr) ∧
        (s.kindAt (effectiveAddr f.mode s) = .ram →
          ∃ u, exec (.ldaAbs (effectiveAddr f.mode s)) { t with a := 0x00#8 } = .next u ∧
            u.a = s.a ∧ u.flag .z = (s.a == 0x00#8) ∧ u.flag .n = s.a.getLsbD 7)

/-- TAX, TAY, TXA, TYA, TSX and TXS (R220 to R225). Which register is the source and which the destination is the
spec's general knowledge G13 for all but TXS. -/
def Obligations.TransferResults : Prop :=
  ∀ s : State,
    (encodedAs .tax 0xAA#8 true ∧ exec .tax s = .next { s with x := s.a, p := putZN s.a s.p }) ∧
    (encodedAs .tay 0xA8#8 true ∧ exec .tay s = .next { s with y := s.a, p := putZN s.a s.p }) ∧
    (encodedAs .txa 0x8A#8 true ∧ exec .txa s = .next { s with a := s.x, p := putZN s.x s.p }) ∧
    (encodedAs .tya 0x98#8 true ∧ exec .tya s = .next { s with a := s.y, p := putZN s.y s.p }) ∧
    (encodedAs .tsx 0xBA#8 true ∧ exec .tsx s = .next { s with x := s.sp, p := putZN s.sp s.p }) ∧
    (encodedAs .txs 0x9A#8 true ∧ exec .txs s = .next { s with sp := s.x })

/-- PHA, PHX, PHY and PHP (R230 to R233): one write at `{0x01, SP}`, then SP goes down by one modulo 256; PHP writes
`P | 0x30` and leaves P. Which register a mnemonic names is the spec's general knowledge G13; what memory then holds
is the platform's (R80, log entry 2). -/
def Obligations.PushResults : Prop :=
  ∀ s : State,
    ∀ q ∈ [(Instr.pha, 0x48#8, true, s.a), (.phx, 0xDA#8, false, s.x), (.phy, 0x5A#8, false, s.y),
        (.php, 0x08#8, true, s.p ||| 0x30#8)],
      encodedAs q.1 q.2.1 q.2.2.1 ∧
      exec q.1 s = .next { s with
        sp := s.sp - 1#8
        mem := busWrite s.map s.mem (mkWord 0x01#8 s.sp) q.2.2.2
        bus := s.bus ++ [.write (mkWord 0x01#8 s.sp) q.2.2.2] }

/-- PLA, PLX, PLY and PLP (R234 to R237): SP goes up by one modulo 256 and the byte at `{0x01, SP}` is read; PLP takes
all flags from it but U = 1 and B = 0. That Z and N of PLP come from the byte, like the others, is R237's own
inference [derived: "restores full status"]; which register a mnemonic names is general knowledge G13. -/
def Obligations.PullResults : Prop :=
  ∀ (s : State) (v : Byte), v = s.peek (mkWord 0x01#8 (s.sp + 1#8)) →
    (encodedAs .pla 0x68#8 true ∧ exec .pla s = .next { s with
      a := v, p := putZN v s.p, sp := s.sp + 1#8, bus := s.bus ++ [.read (mkWord 0x01#8 (s.sp + 1#8)) v] }) ∧
    (encodedAs .plx 0xFA#8 false ∧ exec .plx s = .next { s with
      x := v, p := putZN v s.p, sp := s.sp + 1#8, bus := s.bus ++ [.read (mkWord 0x01#8 (s.sp + 1#8)) v] }) ∧
    (encodedAs .ply 0x7A#8 false ∧ exec .ply s = .next { s with
      y := v, p := putZN v s.p, sp := s.sp + 1#8, bus := s.bus ++ [.read (mkWord 0x01#8 (s.sp + 1#8)) v] }) ∧
    (encodedAs .plp 0x28#8 true ∧ exec .plp s = .next { s with
      p := (v ||| 0x20#8) &&& 0xEF#8, sp := s.sp + 1#8
      bus := s.bus ++ [.read (mkWord 0x01#8 (s.sp + 1#8)) v] })

/-- The round trips of R238 on its condition, a stack in RAM, with anything in the registers between push and pull:
PHA then PLA restores A and sets Z and N from it, PHX then PLX, PHY then PLY, PHP then PLP restores P but for U = 1
and B = 0; SP is back. -/
def Obligations.PushThenPullRestores : Prop :=
  ∀ (s : State) (v q : Byte), Memory.wf s.mem = true → s.kindAt (mkWord 0x01#8 s.sp) = .ram →
    (∃ t u, exec .pha s = .next t ∧ exec .pla { t with a := v, p := q } = .next u ∧
      u.a = s.a ∧ u.sp = s.sp ∧ u.p = putZN s.a q) ∧
    (∃ t u, exec .phx s = .next t ∧ exec .plx { t with x := v, p := q } = .next u ∧
      u.x = s.x ∧ u.sp = s.sp ∧ u.p = putZN s.x q) ∧
    (∃ t u, exec .phy s = .next t ∧ exec .ply { t with y := v, p := q } = .next u ∧
      u.y = s.y ∧ u.sp = s.sp ∧ u.p = putZN s.y q) ∧
    (∃ t u, exec .php s = .next t ∧ exec .plp { t with p := q } = .next u ∧
      u.sp = s.sp ∧ u.flag .b = false ∧ u.flag .u = true ∧
      ∀ f, f ≠ .b → f ≠ .u → u.flag f = s.flag f)

/-! ### Arithmetic -/

/-- ADC in every mode (R250): `r = A + M + C` as a natural number, C = (r > 0xFF), V from the signs, A the low byte, Z
and N from it, the page-cross bonus, one read; nothing else. That this is so whatever D is, is the spec's decision D1
(R256). In Immediate mode the handler's one read of the operand byte (R163) is the fetch the driver made, so exec
makes none (log entry 9). Constructors: the adcForms. -/
def Obligations.AdcResults : Prop :=
  ∀ (o : Byte) (w : Word) (s : State), ∀ f ∈ adcForms o w,
    ∀ (m res : Byte) (r : Nat), m = operandByte f.mode s → r = s.a.toNat + m.toNat + (s.flag .c).toNat →
      res = BitVec.ofNat 8 r →
      f.encoded ∧ exec f.instr s = .next { s with
        a := res
        p := putZN res (putFlag .v (((s.a ^^^ res) &&& (m ^^^ res) &&& 0x80#8) != 0x00#8)
          (putFlag .c (decide (0xFF < r)) s.p))
        cycles := s.cycles + crossBonus f.mode s
        bus := s.bus ++ operandReads f.mode s }

/-- SBC in every mode (R251): the adder on `M XOR 0xFF`, one read; nothing else. The page-cross bonus is the spec's
decision D12; that it is so whatever D is, is its decision D1 (R256). In Immediate mode the handler's one read of the
operand byte (R163) is the fetch the driver made, so exec makes none (log entry 9). Constructors: the sbcForms. -/
def Obligations.SbcResults : Prop :=
  ∀ (o : Byte) (w : Word) (s : State), ∀ f ∈ sbcForms o w,
    ∀ (mc res : Byte) (r : Nat), mc = operandByte f.mode s ^^^ 0xFF#8 →
      r = s.a.toNat + mc.toNat + (s.flag .c).toNat → res = BitVec.ofNat 8 r →
      f.encoded ∧ exec f.instr s = .next { s with
        a := res
        p := putZN res (putFlag .v (((s.a ^^^ res) &&& (mc ^^^ res) &&& 0x80#8) != 0x00#8)
          (putFlag .c (decide (0xFF < r)) s.p))
        cycles := s.cycles + crossBonus f.mode s
        bus := s.bus ++ operandReads f.mode s }

/-- ADC and SBC are integer arithmetic (R251, R255). ADC leaves `A + M + C` modulo 256, SBC `A - M - (1 - C)`; C says that
the unsigned sum left 0 to 255, or that no borrow was needed; V that the signed sum or difference left -128 to
127. -/
def Obligations.AdderIsIntegerArithmetic : Prop :=
  ∀ (s : State) (m : Byte) (c : Nat), c = (s.flag .c).toNat →
    (∃ t, exec (.adcImm m) s = .next t ∧
      t.a.toNat = (s.a.toNat + m.toNat + c) % 256 ∧
      (t.flag .c = true ↔ 256 ≤ s.a.toNat + m.toNat + c) ∧
      (t.flag .v = true ↔ (s.a.toInt + m.toInt + c < -128 ∨ 127 < s.a.toInt + m.toInt + c))) ∧
    (∃ t, exec (.sbcImm m) s = .next t ∧
      (t.a.toNat : Int) = ((s.a.toNat : Int) - m.toNat - (1 - c)) % 256 ∧
      (t.flag .c = true ↔ m.toNat + (1 - c) ≤ s.a.toNat) ∧
      (t.flag .v = true ↔ (s.a.toInt - m.toInt - (1 - c) < -128 ∨ 127 < s.a.toInt - m.toInt - (1 - c))))

/-- The multi-byte addition law of R255: ADC of the low bytes and then of the high bytes, with loads of A between, adds
16-bit numbers and leaves the carry of the whole sum in C. -/
def Obligations.ChainedAdcAddsWords : Prop :=
  ∀ (s : State) (b c : Word),
    ∃ t u v, exec (.adcImm (lo c)) { s with a := lo b } = .next t ∧
      exec (.ldaImm (hi b)) t = .next u ∧ exec (.adcImm (hi c)) u = .next v ∧
      (mkWord v.a t.a).toNat = (b.toNat + c.toNat + (s.flag .c).toNat) % 65536 ∧
      (v.flag .c = true ↔ 65536 ≤ b.toNat + c.toNat + (s.flag .c).toNat)

/-- CMP, CPX and CPY in every mode (R252 to R254): C = (register >= M) unsigned, Z = (register = M), N bit 7 of the
difference; V and the register stay; CMP charges the page-cross bonus, which is the spec's decision D12. In Immediate
mode the handler's one read of the operand byte (R163) is the fetch the driver made, so exec makes none (log entry 9).
Constructors: the cmpForms, cpxForms and cpyForms. -/
def Obligations.CompareResults : Prop :=
  ∀ (o : Byte) (w : Word) (s : State),
    (∀ f ∈ cmpForms o w, ∀ m : Byte, m = operandByte f.mode s →
      f.encoded ∧ exec f.instr s = .next { s with
        p := putFlag .c (decide (m.toNat ≤ s.a.toNat)) (putFlag .z (s.a == m)
          (putFlag .n ((s.a - m).getLsbD 7) s.p))
        cycles := s.cycles + crossBonus f.mode s, bus := s.bus ++ operandReads f.mode s }) ∧
    (∀ f ∈ cpxForms o w, ∀ m : Byte, m = operandByte f.mode s →
      f.encoded ∧ exec f.instr s = .next { s with
        p := putFlag .c (decide (m.toNat ≤ s.x.toNat)) (putFlag .z (s.x == m)
          (putFlag .n ((s.x - m).getLsbD 7) s.p))
        bus := s.bus ++ operandReads f.mode s }) ∧
    (∀ f ∈ cpyForms o w, ∀ m : Byte, m = operandByte f.mode s →
      f.encoded ∧ exec f.instr s = .next { s with
        p := putFlag .c (decide (m.toNat ≤ s.y.toNat)) (putFlag .z (s.y == m)
          (putFlag .n ((s.y - m).getLsbD 7) s.p))
        bus := s.bus ++ operandReads f.mode s })

/-! ### Increments, decrements, shifts and rotates -/

/-- INC and DEC on memory (R270, R271): one read, one write of the byte plus or minus one modulo 256, Z and N from it;
nothing else. What memory then holds is the platform's (R80, log entry 2). Constructors: the incForms and decForms. -/
def Obligations.IncDecMemoryResults : Prop :=
  ∀ (o : Byte) (w : Word) (s : State),
    (∀ f ∈ incForms o w, ∀ r : Byte, r = operandByte f.mode s + 1#8 →
      f.encoded ∧ exec f.instr s = .next { modified f.mode r s with p := putZN r s.p }) ∧
    (∀ f ∈ decForms o w, ∀ r : Byte, r = operandByte f.mode s - 1#8 →
      f.encoded ∧ exec f.instr s = .next { modified f.mode r s with p := putZN r s.p })

/-- INX, DEX, INY, DEY, INC A and DEC A (R272 to R277): the register plus or minus one modulo 256, Z and N from it, C and
V kept, no access. -/
def Obligations.RegisterIncDecResults : Prop :=
  ∀ s : State,
    (encodedAs .inx 0xE8#8 true ∧ exec .inx s = .next { s with x := s.x + 1#8, p := putZN (s.x + 1#8) s.p }) ∧
    (encodedAs .dex 0xCA#8 true ∧ exec .dex s = .next { s with x := s.x - 1#8, p := putZN (s.x - 1#8) s.p }) ∧
    (encodedAs .iny 0xC8#8 true ∧ exec .iny s = .next { s with y := s.y + 1#8, p := putZN (s.y + 1#8) s.p }) ∧
    (encodedAs .dey 0x88#8 true ∧ exec .dey s = .next { s with y := s.y - 1#8, p := putZN (s.y - 1#8) s.p }) ∧
    (encodedAs .incA 0x1A#8 false ∧ exec .incA s = .next { s with a := s.a + 1#8, p := putZN (s.a + 1#8) s.p }) ∧
    (encodedAs .decA 0x3A#8 false ∧ exec .decA s = .next { s with a := s.a - 1#8, p := putZN (s.a - 1#8) s.p })

/-- ASL, LSR, ROL and ROR of A and of memory (R280 to R283): the shifted byte, C the bit that left, Z and N from the
result; nothing else. The page-cross bonus of AbsoluteX on WDC65C02 is general knowledge of the spec (R284, R131),
which log entry 5 takes; what memory then holds is the platform's (log entry 2). Constructors: aslA, lsrA, rolA, rorA,
the aslForms, lsrForms, rolForms and rorForms. -/
def Obligations.ShiftResults : Prop :=
  ∀ (o : Byte) (w : Word) (s : State),
    (encodedAs .aslA 0x0A#8 true ∧ exec .aslA s = .next (shiftedAcc (s.a <<< 1) (s.a.getLsbD 7) s)) ∧
    (encodedAs .lsrA 0x4A#8 true ∧ exec .lsrA s = .next (shiftedAcc (s.a >>> 1) (s.a.getLsbD 0) s)) ∧
    (encodedAs .rolA 0x2A#8 true ∧
      exec .rolA s = .next (shiftedAcc ((s.a <<< 1) ||| carryByte s) (s.a.getLsbD 7) s)) ∧
    (encodedAs .rorA 0x6A#8 true ∧
      exec .rorA s = .next (shiftedAcc ((s.a >>> 1) ||| (carryByte s <<< 7)) (s.a.getLsbD 0) s)) ∧
    (∀ f ∈ aslForms o w, ∀ v : Byte, v = operandByte f.mode s →
      f.encoded ∧ exec f.instr s = .next (shiftedMem f.mode (v <<< 1) (v.getLsbD 7) s)) ∧
    (∀ f ∈ lsrForms o w, ∀ v : Byte, v = operandByte f.mode s →
      f.encoded ∧ exec f.instr s = .next (shiftedMem f.mode (v >>> 1) (v.getLsbD 0) s)) ∧
    (∀ f ∈ rolForms o w, ∀ v : Byte, v = operandByte f.mode s →
      f.encoded ∧ exec f.instr s = .next (shiftedMem f.mode ((v <<< 1) ||| carryByte s) (v.getLsbD 7) s)) ∧
    (∀ f ∈ rorForms o w, ∀ v : Byte, v = operandByte f.mode s →
      f.encoded ∧
        exec f.instr s = .next (shiftedMem f.mode ((v >>> 1) ||| (carryByte s <<< 7)) (v.getLsbD 0) s))

/-- ASL A then ROR A restores A and leaves C = 0 (R283, law and vectors L4 and L5), whatever bit 7 and the carry were. -/
def Obligations.AslThenRorRestores : Prop :=
  ∀ s : State,
    ∃ t u, exec .aslA s = .next t ∧ exec .rorA t = .next u ∧ u.a = s.a ∧ u.flag .c = false ∧
      u.flag .n = s.a.getLsbD 7 ∧ u.flag .z = (s.a == 0x00#8)

/-! ### Logic -/

/-- AND, ORA and EOR in every mode (R300 to R302): A, Z and N from the bitwise result, the page-cross bonus, one read;
nothing else. In Immediate mode the handler's one read of the operand byte (R163) is the fetch the driver made, so
exec makes none (log entry 9). Constructors: the andForms, oraForms and eorForms. -/
def Obligations.LogicResults : Prop :=
  ∀ (o : Byte) (w : Word) (s : State),
    (∀ f ∈ andForms o w, ∀ r : Byte, r = s.a &&& operandByte f.mode s →
      f.encoded ∧ exec f.instr s = .next { s with
        a := r, p := putZN r s.p, cycles := s.cycles + crossBonus f.mode s, bus := s.bus ++ operandReads f.mode s }) ∧
    (∀ f ∈ oraForms o w, ∀ r : Byte, r = s.a ||| operandByte f.mode s →
      f.encoded ∧ exec f.instr s = .next { s with
        a := r, p := putZN r s.p, cycles := s.cycles + crossBonus f.mode s, bus := s.bus ++ operandReads f.mode s }) ∧
    (∀ f ∈ eorForms o w, ∀ r : Byte, r = s.a ^^^ operandByte f.mode s →
      f.encoded ∧ exec f.instr s = .next { s with
        a := r, p := putZN r s.p, cycles := s.cycles + crossBonus f.mode s, bus := s.bus ++ operandReads f.mode s })

/-- BIT (R303): Z from `A AND M` in every form; N and V from bits 7 and 6 of M in every form but Immediate, which
keeps them; the AbsoluteX bonus is the spec's decision D12. In Immediate mode the handler's one read of the operand
byte (R163) is the fetch the driver made, so exec makes none (log entry 9). Constructors: the bitForms. -/
def Obligations.BitTestResults : Prop :=
  ∀ (o : Byte) (w : Word) (s : State), ∀ f ∈ bitForms o w, ∀ m : Byte, m = operandByte f.mode s →
    f.encoded ∧ ∃ q,
      (∀ g, getFlag g q =
        if g = .z then ((s.a &&& m) == 0x00#8)
        else if g = .n ∧ f.opcode ≠ 0x89#8 then m.getLsbD 7
        else if g = .v ∧ f.opcode ≠ 0x89#8 then m.getLsbD 6
        else s.flag g) ∧
      exec f.instr s = .next { s with
        p := q, cycles := s.cycles + crossBonus f.mode s, bus := s.bus ++ operandReads f.mode s }

/-- TSB and TRB (R304, R305): `M OR A` or `M AND NOT A` written back, always, and Z from `A AND M` of the byte read.
What memory then holds is the platform's (R80, log entry 2). Constructors: the tsbForms and trbForms. -/
def Obligations.TestAndModifyResults : Prop :=
  ∀ (o : Byte) (w : Word) (s : State),
    (∀ f ∈ tsbForms o w, ∀ m : Byte, m = operandByte f.mode s →
      f.encoded ∧ exec f.instr s =
        .next { modified f.mode (m ||| s.a) s with p := putFlag .z ((s.a &&& m) == 0x00#8) s.p }) ∧
    (∀ f ∈ trbForms o w, ∀ m : Byte, m = operandByte f.mode s →
      f.encoded ∧ exec f.instr s =
        .next { modified f.mode (m &&& ~~~s.a) s with p := putFlag .z ((s.a &&& m) == 0x00#8) s.p })

/-! ### Jumps, calls, returns, BRK and branches -/

/-- JMP, JSR, RTS and RTI (R320 to R323); PC is past the instruction's bytes when they run, and the bytes pulled are
what the Bus answers to reads made one after the other. Constructors: the jmpForms, jsr, rts, rti. -/
def Obligations.JumpCallReturnResults : Prop :=
  ∀ (o : Byte) (w : Word) (s : State),
    (∀ f ∈ jmpForms o w, f.encoded ∧ exec f.instr s =
      .next { s with pc := effectiveAddr f.mode s, bus := s.bus ++ pointerReads f.mode s }) ∧
    (encodedAs (.jsr w) 0x20#8 true ∧ exec (.jsr w) s = .next { s with
      pc := w
      sp := s.sp - 2#8
      mem := pushedWordMem (s.pc - 1#16) s
      bus := s.bus ++ [.write (mkWord 0x01#8 s.sp) (hi (s.pc - 1#16)),
        .write (mkWord 0x01#8 (s.sp - 1#8)) (lo (s.pc - 1#16))] }) ∧
    (∀ (r1 r2 : State) (b1 b2 b3 : Byte),
      r1 = s.noteRead (mkWord 0x01#8 (s.sp + 1#8)) → r2 = r1.noteRead (mkWord 0x01#8 (s.sp + 2#8)) →
      b1 = s.peek (mkWord 0x01#8 (s.sp + 1#8)) → b2 = r1.peek (mkWord 0x01#8 (s.sp + 2#8)) →
      b3 = r2.peek (mkWord 0x01#8 (s.sp + 3#8)) →
      (encodedAs .rts 0x60#8 true ∧ exec .rts s = .next { s with
        pc := mkWord b2 b1 + 1#16
        sp := s.sp + 2#8
        bus := s.bus ++ [.read (mkWord 0x01#8 (s.sp + 1#8)) b1, .read (mkWord 0x01#8 (s.sp + 2#8)) b2] }) ∧
      (encodedAs .rti 0x40#8 true ∧ exec .rti s = .next { s with
        p := (b1 ||| 0x20#8) &&& 0xEF#8
        pc := mkWord b3 b2
        sp := s.sp + 3#8
        bus := s.bus ++ [.read (mkWord 0x01#8 (s.sp + 1#8)) b1, .read (mkWord 0x01#8 (s.sp + 2#8)) b2,
          .read (mkWord 0x01#8 (s.sp + 3#8)) b3] }))

/-- JSR then RTS with the stack left alone and in RAM (R322, on the condition of R238): PC is the byte after the JSR
and SP is back, also across the stack's wrap. -/
def Obligations.JsrThenRtsReturns : Prop :=
  ∀ (s : State) (w : Word), Memory.wf s.mem = true →
    s.kindAt (mkWord 0x01#8 s.sp) = .ram → s.kindAt (mkWord 0x01#8 (s.sp - 1#8)) = .ram →
    ∃ t u, exec (.jsr w) s = .next t ∧ t.pc = w ∧ exec .rts t = .next u ∧ u.pc = s.pc ∧ u.sp = s.sp

/-- BRK (R324): PC past the padding byte, which is not read (the spec's decision D10), is pushed with `P | 0x30`, I is set,
D cleared on WDC65C02 only, PC is the word at 0xFFFE; five accesses. -/
def Obligations.BrkResult : Prop :=
  ∀ s : State,
    encodedAs .brk 0x00#8 true ∧ exec .brk s = .next { s with
      sp := s.sp - 3#8
      p := (if s.variant = .wdc65c02 then putFlag .d false (putFlag .i true s.p) else putFlag .i true s.p)
      pc := s.peekWord 0xFFFE#16 0xFFFF#16
      mem := pushedFrameMem (s.pc + 1#16) (s.p ||| 0x30#8) s
      bus := s.bus ++ entryAccesses (s.pc + 1#16) (s.p ||| 0x30#8) 0xFFFE#16 s }

/-- An exception entry followed by RTI resumes where it was taken (R418, R419), the stack being RAM: PC, SP and every
flag are back but U = 1 and B = 0; A, X and Y were never touched. For NMI and IRQ entry the PC is the one interrupted,
for BRK two bytes past its opcode. -/
def Obligations.RtiUndoesEntry : Prop :=
  ∀ s : State, Memory.wf s.mem = true → s.kindAt (mkWord 0x01#8 s.sp) = .ram →
    s.kindAt (mkWord 0x01#8 (s.sp - 1#8)) = .ram → s.kindAt (mkWord 0x01#8 (s.sp - 2#8)) = .ram →
    (∀ vector ∈ [nmiVector, irqVector], ∃ u, exec .rti (s.interruptEntry vector) = .next u ∧
      u.pc = s.pc ∧ u.sp = s.sp ∧ u.p = (s.p ||| 0x20#8) &&& 0xEF#8 ∧
      u.a = s.a ∧ u.x = s.x ∧ u.y = s.y) ∧
    (∃ t u, exec .brk s = .next t ∧ exec .rti t = .next u ∧
      u.pc = s.pc + 1#16 ∧ u.sp = s.sp ∧ u.p = (s.p ||| 0x20#8) &&& 0xEF#8 ∧
      u.a = s.a ∧ u.x = s.x ∧ u.y = s.y)

/-- The branches (R330 to R339): taken when the flag has the sense of the mnemonic, to PC plus the signed offset, at the
cost of one cycle and one more across a page; not taken nothing happens. BRA is always taken and charges the page
cross only, its base count holding the other cycle. Which flag a mnemonic tests is the spec's general knowledge.
Constructors: the branchForms and bra. -/
def Obligations.BranchResults : Prop :=
  ∀ (off : Byte) (s : State) (target : Word), target = s.pc + off.signExtend 16 →
    (∀ q ∈ branchForms off, encodedAs q.2.1 q.1 true ∧ exec q.2.1 s =
      .next (if s.flag q.2.2.1 = q.2.2.2 then
        { s with pc := target, cycles := s.cycles + takenCost s.pc target } else s)) ∧
    (encodedAs (.bra off) 0x80#8 false ∧ exec (.bra off) s =
      .next { s with pc := target, cycles := s.cycles + (if hi s.pc = hi target then 0 else 1) })

/-! ### Flags, bits, control -/

/-- CLC, SEC, CLI, SEI, CLD, SED and CLV (R350 to R356): the named flag, and nothing else. Which flag a mnemonic
names, and whether it sets or clears it, is the spec's general knowledge G13. Constructors: the flagForms. -/
def Obligations.FlagInstructionResults : Prop :=
  ∀ (s : State), ∀ q ∈ flagForms,
    encodedAs q.2.1 q.1 true ∧ exec q.2.1 s = .next { s with p := putFlag q.2.2.1 q.2.2.2 s.p }

/-- NOP (R357) and the 44 reserved opcodes of WDC65C02 (R394, R129; the lengths and the published table's cycles are
the spec's general knowledge, that nothing is read at the effective address its decision D8): no effect beyond the
bytes fetched and the base cycles. Constructors: nop and the reservedForms. -/
def Obligations.NopResults : Prop :=
  ∀ (o : Byte) (w : Word) (s : State),
    (encodedAs .nop 0xEA#8 true ∧ exec .nop s = .next s ∧ Instr.nop.length = 1 ∧
      baseCycles publishedCycles s.variant 0xEA#8 = 2) ∧
    (∀ q ∈ reservedForms o w, encodedAs q.2.1 q.1 false ∧ exec q.2.1 s = .next s ∧
      q.2.1.length = q.2.2.1 ∧ baseCycles publishedCycles .wdc65c02 q.1 = q.2.2.2)

/-- RMBn and SMBn (R370, R371): bit n of the zero-page byte cleared or set, always written back; no flag, no register.
What memory then holds is the platform's (R80, log entry 2). Constructors: the rmbForms and smbForms. -/
def Obligations.MemoryBitResults : Prop :=
  ∀ (o : Byte) (s : State),
    (∀ q ∈ rmbForms o, q.2.encoded ∧ exec q.2.instr s =
      .next (modified q.2.mode (operandByte q.2.mode s &&& ~~~(1#8 <<< q.1)) s)) ∧
    (∀ q ∈ smbForms o, q.2.encoded ∧ exec q.2.instr s =
      .next (modified q.2.mode (operandByte q.2.mode s ||| (1#8 <<< q.1)) s))

/-- BBRn and BBSn (R372, R373): one read of the zero-page byte (after both operand bytes, the spec's decision D9), then the
branch when bit n is 0, or 1, with the cost of a taken branch. Constructors: the bbrForms and bbsForms. -/
def Obligations.BitBranchResults : Prop :=
  ∀ (zp off : Byte) (s : State) (m : Byte) (target : Word) (t : State),
    m = s.peek (mkWord 0x00#8 zp) → target = s.pc + off.signExtend 16 →
    t = { s with bus := s.bus ++ [.read (mkWord 0x00#8 zp) m] } →
    (∀ q ∈ bbrForms zp off, encodedAs q.2.2 q.2.1 false ∧ exec q.2.2 s =
      .next (if m.getLsbD q.1 = false then
        { t with pc := target, cycles := s.cycles + takenCost s.pc target } else t)) ∧
    (∀ q ∈ bbsForms zp off, encodedAs q.2.2 q.2.1 false ∧ exec q.2.2 s =
      .next (if m.getLsbD q.1 = true then
        { t with pc := target, cycles := s.cycles + takenCost s.pc target } else t))

/-- WAI (R390, the spec's decision D2) and STP (R392): `Waiting`, or `Halted`, becomes true, and nothing else changes;
3 base cycles each in the published table, of general knowledge. -/
def Obligations.WaiStpResults : Prop :=
  ∀ s : State,
    (encodedAs .wai 0xCB#8 false ∧ exec .wai s = .next { s with waiting := true } ∧
      baseCycles publishedCycles .wdc65c02 0xCB#8 = 3) ∧
    (encodedAs .stp 0xDB#8 false ∧ exec .stp s = .next { s with halted := true } ∧
      baseCycles publishedCycles .wdc65c02 0xDB#8 = 3)
end

