-- ==== Sys2Proof/Laws/Flags.lean ====
section
/-! SUPPORT. The laws of the status register: reading a flag after writing one, after SetZN, and in the copies of P
that the stack sees; and the byte and word helpers. -/

namespace Sys2Proof.Laws

open Sys2Proof.Machine

/-- Distinct flags are distinct bits. -/
theorem flagBit_inj {f g : Flag} : flagBit f = flagBit g ↔ f = g := by
  cases f <;> cases g <;> decide

/-- Every flag is one of the eight bits. -/
theorem flagBit_lt (f : Flag) : flagBit f < 8 := by cases f <;> decide

/-- Writing a flag changes that bit only. -/
@[simp] theorem getFlag_putFlag (f g : Flag) (on : Bool) (p : Byte) :
    getFlag f (putFlag g on p) = if f = g then on else getFlag f p := by
  have hf := flagBit_lt f
  have key : flagBit f - flagBit g = 0 ∧ ¬ flagBit f < flagBit g ↔ f = g := by
    rw [← flagBit_inj]; omega
  unfold getFlag putFlag
  by_cases h : f = g
  · subst h
    cases on <;> simp [hf]
  · have hne : flagBit f ≠ flagBit g := fun e => h (flagBit_inj.mp e)
    cases on
    · simp only [if_neg h, Bool.false_eq_true, if_false, BitVec.getLsbD_and, BitVec.getLsbD_not,
        BitVec.getLsbD_shiftLeft, hf, decide_true, Bool.true_and]
      by_cases hlt : flagBit f < flagBit g
      · simp [hlt]
      · simp [hlt, BitVec.getLsbD_one, show ¬ flagBit f - flagBit g = 0 by omega]
    · simp only [if_neg h, if_true, BitVec.getLsbD_or, BitVec.getLsbD_shiftLeft, hf, decide_true, Bool.true_and]
      by_cases hlt : flagBit f < flagBit g
      · simp [hlt]
      · simp [hlt, BitVec.getLsbD_one, show ¬ flagBit f - flagBit g = 0 by omega]

/-- A flag after `SetZN`. -/
@[simp] theorem getFlag_putZN (f : Flag) (v p : Byte) :
    getFlag f (putZN v p) =
      if f = .n then v.getLsbD 7 else if f = .z then (v == 0x00#8) else getFlag f p := by
  simp [putZN]

/-- A flag of the byte PHP and BRK push. -/
@[simp] theorem getFlag_stackedByBrk (f : Flag) (p : Byte) :
    getFlag f (stackedByBrk p) = if f = .b ∨ f = .u then true else getFlag f p := by
  cases f <;> simp [getFlag, stackedByBrk, flagBit]

/-- A flag of the byte NMI and IRQ entry push. -/
@[simp] theorem getFlag_stackedByInterrupt (f : Flag) (p : Byte) :
    getFlag f (stackedByInterrupt p) = if f = .b then false else if f = .u then true else getFlag f p := by
  cases f <;> simp [getFlag, stackedByInterrupt, flagBit]

/-- A flag of P after PLP or RTI pulled `v`. -/
@[simp] theorem getFlag_pulledStatus (f : Flag) (v : Byte) :
    getFlag f (pulledStatus v) = if f = .b then false else if f = .u then true else getFlag f v := by
  cases f <;> simp [getFlag, pulledStatus, flagBit]

/-- The low byte of a word made of two bytes. -/
@[simp] theorem lo_mkWord (h l : Byte) : lo (mkWord h l) = l := by
  apply BitVec.eq_of_getLsbD_eq
  intro i hi
  have h16 : i < 16 := by omega
  simp [lo, mkWord, hi, h16]

/-- The high byte of a word made of two bytes. -/
@[simp] theorem hi_mkWord (h l : Byte) : hi (mkWord h l) = h := by
  apply BitVec.eq_of_getLsbD_eq
  intro i hi'
  have h16 : 8 + i < 16 := by omega
  simp [hi, mkWord, hi', h16]

/-- A word is made of its own bytes. -/
@[simp] theorem mkWord_hi_lo (w : Word) : mkWord (hi w) (lo w) = w := by
  apply BitVec.eq_of_getLsbD_eq
  intro i hi'
  by_cases h : i < 8
  · simp [lo, hi, mkWord, h, hi']
  · have h2 : i - 8 < 8 := by omega
    have h3 : 8 + (i - 8) = i := by omega
    simp [lo, hi, mkWord, h, h2, h3, hi']

/-- A byte as a word is the word with high byte 0. -/
theorem zext16_eq_mkWord (b : Byte) : zext16 b = mkWord 0x00#8 b := by
  simp [zext16, mkWord]

end Sys2Proof.Laws
end

