-- ==== Sys2Proof/Laws/State.lean ====
section
/-! SUPPORT. What each shared update does to each field of State: one lemma per field per update, each true by rfl. -/

namespace Sys2Proof.Laws

open Sys2Proof.Machine

@[simp] theorem noteRead_variant (s : State) (addr : Word) : (s.noteRead addr).variant = s.variant := rfl
@[simp] theorem noteRead_a (s : State) (addr : Word) : (s.noteRead addr).a = s.a := rfl
@[simp] theorem noteRead_x (s : State) (addr : Word) : (s.noteRead addr).x = s.x := rfl
@[simp] theorem noteRead_y (s : State) (addr : Word) : (s.noteRead addr).y = s.y := rfl
@[simp] theorem noteRead_sp (s : State) (addr : Word) : (s.noteRead addr).sp = s.sp := rfl
@[simp] theorem noteRead_p (s : State) (addr : Word) : (s.noteRead addr).p = s.p := rfl
@[simp] theorem noteRead_pc (s : State) (addr : Word) : (s.noteRead addr).pc = s.pc := rfl
@[simp] theorem noteRead_cycles (s : State) (addr : Word) : (s.noteRead addr).cycles = s.cycles := rfl
@[simp] theorem noteRead_halted (s : State) (addr : Word) : (s.noteRead addr).halted = s.halted := rfl
@[simp] theorem noteRead_waiting (s : State) (addr : Word) : (s.noteRead addr).waiting = s.waiting := rfl
@[simp] theorem noteRead_resetPending (s : State) (addr : Word) : (s.noteRead addr).resetPending = s.resetPending := rfl
@[simp] theorem noteRead_nmiPending (s : State) (addr : Word) : (s.noteRead addr).nmiPending = s.nmiPending := rfl
@[simp] theorem noteRead_irqPending (s : State) (addr : Word) : (s.noteRead addr).irqPending = s.irqPending := rfl
@[simp] theorem noteRead_mem (s : State) (addr : Word) : (s.noteRead addr).mem = s.mem := rfl
@[simp] theorem noteRead_map (s : State) (addr : Word) : (s.noteRead addr).map = s.map := rfl
@[simp] theorem noteRead_answers (s : State) (addr : Word) : (s.noteRead addr).answers = s.answers := rfl
@[simp] theorem noteRead_costs (s : State) (addr : Word) : (s.noteRead addr).costs = s.costs := rfl
@[simp] theorem noteRead_started (s : State) (addr : Word) : (s.noteRead addr).started = s.started := rfl
@[simp] theorem noteRead_bus (s : State) (addr : Word) : (s.noteRead addr).bus = s.bus ++ [.read addr (s.peek addr)] := rfl

@[simp] theorem memWrite_variant (s : State) (addr : Word) (v : Byte) : (s.memWrite addr v).variant = s.variant := rfl
@[simp] theorem memWrite_a (s : State) (addr : Word) (v : Byte) : (s.memWrite addr v).a = s.a := rfl
@[simp] theorem memWrite_x (s : State) (addr : Word) (v : Byte) : (s.memWrite addr v).x = s.x := rfl
@[simp] theorem memWrite_y (s : State) (addr : Word) (v : Byte) : (s.memWrite addr v).y = s.y := rfl
@[simp] theorem memWrite_sp (s : State) (addr : Word) (v : Byte) : (s.memWrite addr v).sp = s.sp := rfl
@[simp] theorem memWrite_p (s : State) (addr : Word) (v : Byte) : (s.memWrite addr v).p = s.p := rfl
@[simp] theorem memWrite_pc (s : State) (addr : Word) (v : Byte) : (s.memWrite addr v).pc = s.pc := rfl
@[simp] theorem memWrite_cycles (s : State) (addr : Word) (v : Byte) : (s.memWrite addr v).cycles = s.cycles := rfl
@[simp] theorem memWrite_halted (s : State) (addr : Word) (v : Byte) : (s.memWrite addr v).halted = s.halted := rfl
@[simp] theorem memWrite_waiting (s : State) (addr : Word) (v : Byte) : (s.memWrite addr v).waiting = s.waiting := rfl
@[simp] theorem memWrite_resetPending (s : State) (addr : Word) (v : Byte) : (s.memWrite addr v).resetPending = s.resetPending := rfl
@[simp] theorem memWrite_nmiPending (s : State) (addr : Word) (v : Byte) : (s.memWrite addr v).nmiPending = s.nmiPending := rfl
@[simp] theorem memWrite_irqPending (s : State) (addr : Word) (v : Byte) : (s.memWrite addr v).irqPending = s.irqPending := rfl
@[simp] theorem memWrite_mem (s : State) (addr : Word) (v : Byte) : (s.memWrite addr v).mem = busWrite s.map s.mem addr v := rfl
@[simp] theorem memWrite_map (s : State) (addr : Word) (v : Byte) : (s.memWrite addr v).map = s.map := rfl
@[simp] theorem memWrite_answers (s : State) (addr : Word) (v : Byte) : (s.memWrite addr v).answers = s.answers := rfl
@[simp] theorem memWrite_costs (s : State) (addr : Word) (v : Byte) : (s.memWrite addr v).costs = s.costs := rfl
@[simp] theorem memWrite_started (s : State) (addr : Word) (v : Byte) : (s.memWrite addr v).started = s.started := rfl
@[simp] theorem memWrite_bus (s : State) (addr : Word) (v : Byte) : (s.memWrite addr v).bus = s.bus ++ [.write addr v] := rfl

@[simp] theorem fetch8_variant (s : State) : s.fetch8.2.variant = s.variant := rfl
@[simp] theorem fetch8_a (s : State) : s.fetch8.2.a = s.a := rfl
@[simp] theorem fetch8_x (s : State) : s.fetch8.2.x = s.x := rfl
@[simp] theorem fetch8_y (s : State) : s.fetch8.2.y = s.y := rfl
@[simp] theorem fetch8_sp (s : State) : s.fetch8.2.sp = s.sp := rfl
@[simp] theorem fetch8_p (s : State) : s.fetch8.2.p = s.p := rfl
@[simp] theorem fetch8_pc (s : State) : s.fetch8.2.pc = s.pc + 1#16 := rfl
@[simp] theorem fetch8_cycles (s : State) : s.fetch8.2.cycles = s.cycles := rfl
@[simp] theorem fetch8_halted (s : State) : s.fetch8.2.halted = s.halted := rfl
@[simp] theorem fetch8_waiting (s : State) : s.fetch8.2.waiting = s.waiting := rfl
@[simp] theorem fetch8_resetPending (s : State) : s.fetch8.2.resetPending = s.resetPending := rfl
@[simp] theorem fetch8_nmiPending (s : State) : s.fetch8.2.nmiPending = s.nmiPending := rfl
@[simp] theorem fetch8_irqPending (s : State) : s.fetch8.2.irqPending = s.irqPending := rfl
@[simp] theorem fetch8_mem (s : State) : s.fetch8.2.mem = s.mem := rfl
@[simp] theorem fetch8_map (s : State) : s.fetch8.2.map = s.map := rfl
@[simp] theorem fetch8_answers (s : State) : s.fetch8.2.answers = s.answers := rfl
@[simp] theorem fetch8_costs (s : State) : s.fetch8.2.costs = s.costs := rfl
@[simp] theorem fetch8_started (s : State) : s.fetch8.2.started = s.started := rfl
@[simp] theorem fetch8_bus (s : State) : s.fetch8.2.bus = s.bus ++ [.read s.pc (s.peek s.pc)] := rfl

@[simp] theorem readWordAt_variant (s : State) (low high : Word) : ((s.readWordAt low high).2).variant = s.variant := rfl
@[simp] theorem readWordAt_a (s : State) (low high : Word) : ((s.readWordAt low high).2).a = s.a := rfl
@[simp] theorem readWordAt_x (s : State) (low high : Word) : ((s.readWordAt low high).2).x = s.x := rfl
@[simp] theorem readWordAt_y (s : State) (low high : Word) : ((s.readWordAt low high).2).y = s.y := rfl
@[simp] theorem readWordAt_sp (s : State) (low high : Word) : ((s.readWordAt low high).2).sp = s.sp := rfl
@[simp] theorem readWordAt_p (s : State) (low high : Word) : ((s.readWordAt low high).2).p = s.p := rfl
@[simp] theorem readWordAt_pc (s : State) (low high : Word) : ((s.readWordAt low high).2).pc = s.pc := rfl
@[simp] theorem readWordAt_cycles (s : State) (low high : Word) : ((s.readWordAt low high).2).cycles = s.cycles := rfl
@[simp] theorem readWordAt_halted (s : State) (low high : Word) : ((s.readWordAt low high).2).halted = s.halted := rfl
@[simp] theorem readWordAt_waiting (s : State) (low high : Word) : ((s.readWordAt low high).2).waiting = s.waiting := rfl
@[simp] theorem readWordAt_resetPending (s : State) (low high : Word) : ((s.readWordAt low high).2).resetPending = s.resetPending := rfl
@[simp] theorem readWordAt_nmiPending (s : State) (low high : Word) : ((s.readWordAt low high).2).nmiPending = s.nmiPending := rfl
@[simp] theorem readWordAt_irqPending (s : State) (low high : Word) : ((s.readWordAt low high).2).irqPending = s.irqPending := rfl
@[simp] theorem readWordAt_mem (s : State) (low high : Word) : ((s.readWordAt low high).2).mem = s.mem := rfl
@[simp] theorem readWordAt_map (s : State) (low high : Word) : ((s.readWordAt low high).2).map = s.map := rfl
@[simp] theorem readWordAt_answers (s : State) (low high : Word) : ((s.readWordAt low high).2).answers = s.answers := rfl
@[simp] theorem readWordAt_costs (s : State) (low high : Word) : ((s.readWordAt low high).2).costs = s.costs := rfl
@[simp] theorem readWordAt_started (s : State) (low high : Word) : ((s.readWordAt low high).2).started = s.started := rfl
@[simp] theorem readWordAt_bus (s : State) (low high : Word) : ((s.readWordAt low high).2).bus = s.bus ++ [.read low (s.peek low)] ++ [.read high ((s.noteRead low).peek high)] := rfl

@[simp] theorem push_variant (s : State) (v : Byte) : (s.push v).variant = s.variant := rfl
@[simp] theorem push_a (s : State) (v : Byte) : (s.push v).a = s.a := rfl
@[simp] theorem push_x (s : State) (v : Byte) : (s.push v).x = s.x := rfl
@[simp] theorem push_y (s : State) (v : Byte) : (s.push v).y = s.y := rfl
@[simp] theorem push_sp (s : State) (v : Byte) : (s.push v).sp = s.sp - 1#8 := rfl
@[simp] theorem push_p (s : State) (v : Byte) : (s.push v).p = s.p := rfl
@[simp] theorem push_pc (s : State) (v : Byte) : (s.push v).pc = s.pc := rfl
@[simp] theorem push_cycles (s : State) (v : Byte) : (s.push v).cycles = s.cycles := rfl
@[simp] theorem push_halted (s : State) (v : Byte) : (s.push v).halted = s.halted := rfl
@[simp] theorem push_waiting (s : State) (v : Byte) : (s.push v).waiting = s.waiting := rfl
@[simp] theorem push_resetPending (s : State) (v : Byte) : (s.push v).resetPending = s.resetPending := rfl
@[simp] theorem push_nmiPending (s : State) (v : Byte) : (s.push v).nmiPending = s.nmiPending := rfl
@[simp] theorem push_irqPending (s : State) (v : Byte) : (s.push v).irqPending = s.irqPending := rfl
@[simp] theorem push_mem (s : State) (v : Byte) : (s.push v).mem = busWrite s.map s.mem (stackAddr s.sp) v := rfl
@[simp] theorem push_map (s : State) (v : Byte) : (s.push v).map = s.map := rfl
@[simp] theorem push_answers (s : State) (v : Byte) : (s.push v).answers = s.answers := rfl
@[simp] theorem push_costs (s : State) (v : Byte) : (s.push v).costs = s.costs := rfl
@[simp] theorem push_started (s : State) (v : Byte) : (s.push v).started = s.started := rfl
@[simp] theorem push_bus (s : State) (v : Byte) : (s.push v).bus = s.bus ++ [.write (stackAddr s.sp) v] := rfl

@[simp] theorem pull_variant (s : State) : s.pull.2.variant = s.variant := rfl
@[simp] theorem pull_a (s : State) : s.pull.2.a = s.a := rfl
@[simp] theorem pull_x (s : State) : s.pull.2.x = s.x := rfl
@[simp] theorem pull_y (s : State) : s.pull.2.y = s.y := rfl
@[simp] theorem pull_sp (s : State) : s.pull.2.sp = s.sp + 1#8 := rfl
@[simp] theorem pull_p (s : State) : s.pull.2.p = s.p := rfl
@[simp] theorem pull_pc (s : State) : s.pull.2.pc = s.pc := rfl
@[simp] theorem pull_cycles (s : State) : s.pull.2.cycles = s.cycles := rfl
@[simp] theorem pull_halted (s : State) : s.pull.2.halted = s.halted := rfl
@[simp] theorem pull_waiting (s : State) : s.pull.2.waiting = s.waiting := rfl
@[simp] theorem pull_resetPending (s : State) : s.pull.2.resetPending = s.resetPending := rfl
@[simp] theorem pull_nmiPending (s : State) : s.pull.2.nmiPending = s.nmiPending := rfl
@[simp] theorem pull_irqPending (s : State) : s.pull.2.irqPending = s.irqPending := rfl
@[simp] theorem pull_mem (s : State) : s.pull.2.mem = s.mem := rfl
@[simp] theorem pull_map (s : State) : s.pull.2.map = s.map := rfl
@[simp] theorem pull_answers (s : State) : s.pull.2.answers = s.answers := rfl
@[simp] theorem pull_costs (s : State) : s.pull.2.costs = s.costs := rfl
@[simp] theorem pull_started (s : State) : s.pull.2.started = s.started := rfl
@[simp] theorem pull_bus (s : State) : s.pull.2.bus = s.bus ++ [.read (stackAddr (s.sp + 1#8)) (s.peek (stackAddr (s.sp + 1#8)))] := rfl

@[simp] theorem pushWord_variant (s : State) (w : Word) : (s.pushWord w).variant = s.variant := rfl
@[simp] theorem pushWord_a (s : State) (w : Word) : (s.pushWord w).a = s.a := rfl
@[simp] theorem pushWord_x (s : State) (w : Word) : (s.pushWord w).x = s.x := rfl
@[simp] theorem pushWord_y (s : State) (w : Word) : (s.pushWord w).y = s.y := rfl
@[simp] theorem pushWord_sp (s : State) (w : Word) : (s.pushWord w).sp = s.sp - 1#8 - 1#8 := rfl
@[simp] theorem pushWord_p (s : State) (w : Word) : (s.pushWord w).p = s.p := rfl
@[simp] theorem pushWord_pc (s : State) (w : Word) : (s.pushWord w).pc = s.pc := rfl
@[simp] theorem pushWord_cycles (s : State) (w : Word) : (s.pushWord w).cycles = s.cycles := rfl
@[simp] theorem pushWord_halted (s : State) (w : Word) : (s.pushWord w).halted = s.halted := rfl
@[simp] theorem pushWord_waiting (s : State) (w : Word) : (s.pushWord w).waiting = s.waiting := rfl
@[simp] theorem pushWord_resetPending (s : State) (w : Word) : (s.pushWord w).resetPending = s.resetPending := rfl
@[simp] theorem pushWord_nmiPending (s : State) (w : Word) : (s.pushWord w).nmiPending = s.nmiPending := rfl
@[simp] theorem pushWord_irqPending (s : State) (w : Word) : (s.pushWord w).irqPending = s.irqPending := rfl
@[simp] theorem pushWord_mem (s : State) (w : Word) : (s.pushWord w).mem = busWrite s.map (busWrite s.map s.mem (stackAddr s.sp) (hi w)) (stackAddr (s.sp - 1#8)) (lo w) := rfl
@[simp] theorem pushWord_map (s : State) (w : Word) : (s.pushWord w).map = s.map := rfl
@[simp] theorem pushWord_answers (s : State) (w : Word) : (s.pushWord w).answers = s.answers := rfl
@[simp] theorem pushWord_costs (s : State) (w : Word) : (s.pushWord w).costs = s.costs := rfl
@[simp] theorem pushWord_started (s : State) (w : Word) : (s.pushWord w).started = s.started := rfl
@[simp] theorem pushWord_bus (s : State) (w : Word) : (s.pushWord w).bus = s.bus ++ [.write (stackAddr s.sp) (hi w)] ++ [.write (stackAddr (s.sp - 1#8)) (lo w)] := rfl

@[simp] theorem setFlag_variant (s : State) (f : Flag) (on : Bool) : (s.setFlag f on).variant = s.variant := rfl
@[simp] theorem setFlag_a (s : State) (f : Flag) (on : Bool) : (s.setFlag f on).a = s.a := rfl
@[simp] theorem setFlag_x (s : State) (f : Flag) (on : Bool) : (s.setFlag f on).x = s.x := rfl
@[simp] theorem setFlag_y (s : State) (f : Flag) (on : Bool) : (s.setFlag f on).y = s.y := rfl
@[simp] theorem setFlag_sp (s : State) (f : Flag) (on : Bool) : (s.setFlag f on).sp = s.sp := rfl
@[simp] theorem setFlag_p (s : State) (f : Flag) (on : Bool) : (s.setFlag f on).p = putFlag f on s.p := rfl
@[simp] theorem setFlag_pc (s : State) (f : Flag) (on : Bool) : (s.setFlag f on).pc = s.pc := rfl
@[simp] theorem setFlag_cycles (s : State) (f : Flag) (on : Bool) : (s.setFlag f on).cycles = s.cycles := rfl
@[simp] theorem setFlag_halted (s : State) (f : Flag) (on : Bool) : (s.setFlag f on).halted = s.halted := rfl
@[simp] theorem setFlag_waiting (s : State) (f : Flag) (on : Bool) : (s.setFlag f on).waiting = s.waiting := rfl
@[simp] theorem setFlag_resetPending (s : State) (f : Flag) (on : Bool) : (s.setFlag f on).resetPending = s.resetPending := rfl
@[simp] theorem setFlag_nmiPending (s : State) (f : Flag) (on : Bool) : (s.setFlag f on).nmiPending = s.nmiPending := rfl
@[simp] theorem setFlag_irqPending (s : State) (f : Flag) (on : Bool) : (s.setFlag f on).irqPending = s.irqPending := rfl
@[simp] theorem setFlag_mem (s : State) (f : Flag) (on : Bool) : (s.setFlag f on).mem = s.mem := rfl
@[simp] theorem setFlag_map (s : State) (f : Flag) (on : Bool) : (s.setFlag f on).map = s.map := rfl
@[simp] theorem setFlag_answers (s : State) (f : Flag) (on : Bool) : (s.setFlag f on).answers = s.answers := rfl
@[simp] theorem setFlag_costs (s : State) (f : Flag) (on : Bool) : (s.setFlag f on).costs = s.costs := rfl
@[simp] theorem setFlag_started (s : State) (f : Flag) (on : Bool) : (s.setFlag f on).started = s.started := rfl
@[simp] theorem setFlag_bus (s : State) (f : Flag) (on : Bool) : (s.setFlag f on).bus = s.bus := rfl

@[simp] theorem setZN_variant (s : State) (v : Byte) : (s.setZN v).variant = s.variant := rfl
@[simp] theorem setZN_a (s : State) (v : Byte) : (s.setZN v).a = s.a := rfl
@[simp] theorem setZN_x (s : State) (v : Byte) : (s.setZN v).x = s.x := rfl
@[simp] theorem setZN_y (s : State) (v : Byte) : (s.setZN v).y = s.y := rfl
@[simp] theorem setZN_sp (s : State) (v : Byte) : (s.setZN v).sp = s.sp := rfl
@[simp] theorem setZN_p (s : State) (v : Byte) : (s.setZN v).p = putZN v s.p := rfl
@[simp] theorem setZN_pc (s : State) (v : Byte) : (s.setZN v).pc = s.pc := rfl
@[simp] theorem setZN_cycles (s : State) (v : Byte) : (s.setZN v).cycles = s.cycles := rfl
@[simp] theorem setZN_halted (s : State) (v : Byte) : (s.setZN v).halted = s.halted := rfl
@[simp] theorem setZN_waiting (s : State) (v : Byte) : (s.setZN v).waiting = s.waiting := rfl
@[simp] theorem setZN_resetPending (s : State) (v : Byte) : (s.setZN v).resetPending = s.resetPending := rfl
@[simp] theorem setZN_nmiPending (s : State) (v : Byte) : (s.setZN v).nmiPending = s.nmiPending := rfl
@[simp] theorem setZN_irqPending (s : State) (v : Byte) : (s.setZN v).irqPending = s.irqPending := rfl
@[simp] theorem setZN_mem (s : State) (v : Byte) : (s.setZN v).mem = s.mem := rfl
@[simp] theorem setZN_map (s : State) (v : Byte) : (s.setZN v).map = s.map := rfl
@[simp] theorem setZN_answers (s : State) (v : Byte) : (s.setZN v).answers = s.answers := rfl
@[simp] theorem setZN_costs (s : State) (v : Byte) : (s.setZN v).costs = s.costs := rfl
@[simp] theorem setZN_started (s : State) (v : Byte) : (s.setZN v).started = s.started := rfl
@[simp] theorem setZN_bus (s : State) (v : Byte) : (s.setZN v).bus = s.bus := rfl

@[simp] theorem charge_variant (s : State) (n : Nat) : (s.charge n).variant = s.variant := rfl
@[simp] theorem charge_a (s : State) (n : Nat) : (s.charge n).a = s.a := rfl
@[simp] theorem charge_x (s : State) (n : Nat) : (s.charge n).x = s.x := rfl
@[simp] theorem charge_y (s : State) (n : Nat) : (s.charge n).y = s.y := rfl
@[simp] theorem charge_sp (s : State) (n : Nat) : (s.charge n).sp = s.sp := rfl
@[simp] theorem charge_p (s : State) (n : Nat) : (s.charge n).p = s.p := rfl
@[simp] theorem charge_pc (s : State) (n : Nat) : (s.charge n).pc = s.pc := rfl
@[simp] theorem charge_cycles (s : State) (n : Nat) : (s.charge n).cycles = s.cycles + n := rfl
@[simp] theorem charge_halted (s : State) (n : Nat) : (s.charge n).halted = s.halted := rfl
@[simp] theorem charge_waiting (s : State) (n : Nat) : (s.charge n).waiting = s.waiting := rfl
@[simp] theorem charge_resetPending (s : State) (n : Nat) : (s.charge n).resetPending = s.resetPending := rfl
@[simp] theorem charge_nmiPending (s : State) (n : Nat) : (s.charge n).nmiPending = s.nmiPending := rfl
@[simp] theorem charge_irqPending (s : State) (n : Nat) : (s.charge n).irqPending = s.irqPending := rfl
@[simp] theorem charge_mem (s : State) (n : Nat) : (s.charge n).mem = s.mem := rfl
@[simp] theorem charge_map (s : State) (n : Nat) : (s.charge n).map = s.map := rfl
@[simp] theorem charge_answers (s : State) (n : Nat) : (s.charge n).answers = s.answers := rfl
@[simp] theorem charge_costs (s : State) (n : Nat) : (s.charge n).costs = s.costs := rfl
@[simp] theorem charge_started (s : State) (n : Nat) : (s.charge n).started = s.started := rfl
@[simp] theorem charge_bus (s : State) (n : Nat) : (s.charge n).bus = s.bus := rfl

@[simp] theorem setA_variant (v : Byte) (s : State) : (setA v s).variant = s.variant := rfl
@[simp] theorem setA_a (v : Byte) (s : State) : (setA v s).a = v := rfl
@[simp] theorem setA_x (v : Byte) (s : State) : (setA v s).x = s.x := rfl
@[simp] theorem setA_y (v : Byte) (s : State) : (setA v s).y = s.y := rfl
@[simp] theorem setA_sp (v : Byte) (s : State) : (setA v s).sp = s.sp := rfl
@[simp] theorem setA_p (v : Byte) (s : State) : (setA v s).p = putZN v s.p := rfl
@[simp] theorem setA_pc (v : Byte) (s : State) : (setA v s).pc = s.pc := rfl
@[simp] theorem setA_cycles (v : Byte) (s : State) : (setA v s).cycles = s.cycles := rfl
@[simp] theorem setA_halted (v : Byte) (s : State) : (setA v s).halted = s.halted := rfl
@[simp] theorem setA_waiting (v : Byte) (s : State) : (setA v s).waiting = s.waiting := rfl
@[simp] theorem setA_resetPending (v : Byte) (s : State) : (setA v s).resetPending = s.resetPending := rfl
@[simp] theorem setA_nmiPending (v : Byte) (s : State) : (setA v s).nmiPending = s.nmiPending := rfl
@[simp] theorem setA_irqPending (v : Byte) (s : State) : (setA v s).irqPending = s.irqPending := rfl
@[simp] theorem setA_mem (v : Byte) (s : State) : (setA v s).mem = s.mem := rfl
@[simp] theorem setA_map (v : Byte) (s : State) : (setA v s).map = s.map := rfl
@[simp] theorem setA_answers (v : Byte) (s : State) : (setA v s).answers = s.answers := rfl
@[simp] theorem setA_costs (v : Byte) (s : State) : (setA v s).costs = s.costs := rfl
@[simp] theorem setA_started (v : Byte) (s : State) : (setA v s).started = s.started := rfl
@[simp] theorem setA_bus (v : Byte) (s : State) : (setA v s).bus = s.bus := rfl

@[simp] theorem setX_variant (v : Byte) (s : State) : (setX v s).variant = s.variant := rfl
@[simp] theorem setX_a (v : Byte) (s : State) : (setX v s).a = s.a := rfl
@[simp] theorem setX_x (v : Byte) (s : State) : (setX v s).x = v := rfl
@[simp] theorem setX_y (v : Byte) (s : State) : (setX v s).y = s.y := rfl
@[simp] theorem setX_sp (v : Byte) (s : State) : (setX v s).sp = s.sp := rfl
@[simp] theorem setX_p (v : Byte) (s : State) : (setX v s).p = putZN v s.p := rfl
@[simp] theorem setX_pc (v : Byte) (s : State) : (setX v s).pc = s.pc := rfl
@[simp] theorem setX_cycles (v : Byte) (s : State) : (setX v s).cycles = s.cycles := rfl
@[simp] theorem setX_halted (v : Byte) (s : State) : (setX v s).halted = s.halted := rfl
@[simp] theorem setX_waiting (v : Byte) (s : State) : (setX v s).waiting = s.waiting := rfl
@[simp] theorem setX_resetPending (v : Byte) (s : State) : (setX v s).resetPending = s.resetPending := rfl
@[simp] theorem setX_nmiPending (v : Byte) (s : State) : (setX v s).nmiPending = s.nmiPending := rfl
@[simp] theorem setX_irqPending (v : Byte) (s : State) : (setX v s).irqPending = s.irqPending := rfl
@[simp] theorem setX_mem (v : Byte) (s : State) : (setX v s).mem = s.mem := rfl
@[simp] theorem setX_map (v : Byte) (s : State) : (setX v s).map = s.map := rfl
@[simp] theorem setX_answers (v : Byte) (s : State) : (setX v s).answers = s.answers := rfl
@[simp] theorem setX_costs (v : Byte) (s : State) : (setX v s).costs = s.costs := rfl
@[simp] theorem setX_started (v : Byte) (s : State) : (setX v s).started = s.started := rfl
@[simp] theorem setX_bus (v : Byte) (s : State) : (setX v s).bus = s.bus := rfl

@[simp] theorem setY_variant (v : Byte) (s : State) : (setY v s).variant = s.variant := rfl
@[simp] theorem setY_a (v : Byte) (s : State) : (setY v s).a = s.a := rfl
@[simp] theorem setY_x (v : Byte) (s : State) : (setY v s).x = s.x := rfl
@[simp] theorem setY_y (v : Byte) (s : State) : (setY v s).y = v := rfl
@[simp] theorem setY_sp (v : Byte) (s : State) : (setY v s).sp = s.sp := rfl
@[simp] theorem setY_p (v : Byte) (s : State) : (setY v s).p = putZN v s.p := rfl
@[simp] theorem setY_pc (v : Byte) (s : State) : (setY v s).pc = s.pc := rfl
@[simp] theorem setY_cycles (v : Byte) (s : State) : (setY v s).cycles = s.cycles := rfl
@[simp] theorem setY_halted (v : Byte) (s : State) : (setY v s).halted = s.halted := rfl
@[simp] theorem setY_waiting (v : Byte) (s : State) : (setY v s).waiting = s.waiting := rfl
@[simp] theorem setY_resetPending (v : Byte) (s : State) : (setY v s).resetPending = s.resetPending := rfl
@[simp] theorem setY_nmiPending (v : Byte) (s : State) : (setY v s).nmiPending = s.nmiPending := rfl
@[simp] theorem setY_irqPending (v : Byte) (s : State) : (setY v s).irqPending = s.irqPending := rfl
@[simp] theorem setY_mem (v : Byte) (s : State) : (setY v s).mem = s.mem := rfl
@[simp] theorem setY_map (v : Byte) (s : State) : (setY v s).map = s.map := rfl
@[simp] theorem setY_answers (v : Byte) (s : State) : (setY v s).answers = s.answers := rfl
@[simp] theorem setY_costs (v : Byte) (s : State) : (setY v s).costs = s.costs := rfl
@[simp] theorem setY_started (v : Byte) (s : State) : (setY v s).started = s.started := rfl
@[simp] theorem setY_bus (v : Byte) (s : State) : (setY v s).bus = s.bus := rfl

@[simp] theorem setSum_variant (r : Sum) (s : State) : (setSum r s).variant = s.variant := rfl
@[simp] theorem setSum_a (r : Sum) (s : State) : (setSum r s).a = r.res := rfl
@[simp] theorem setSum_x (r : Sum) (s : State) : (setSum r s).x = s.x := rfl
@[simp] theorem setSum_y (r : Sum) (s : State) : (setSum r s).y = s.y := rfl
@[simp] theorem setSum_sp (r : Sum) (s : State) : (setSum r s).sp = s.sp := rfl
@[simp] theorem setSum_p (r : Sum) (s : State) : (setSum r s).p = putZN r.res (putFlag .v r.overflow (putFlag .c r.carry s.p)) := rfl
@[simp] theorem setSum_pc (r : Sum) (s : State) : (setSum r s).pc = s.pc := rfl
@[simp] theorem setSum_cycles (r : Sum) (s : State) : (setSum r s).cycles = s.cycles := rfl
@[simp] theorem setSum_halted (r : Sum) (s : State) : (setSum r s).halted = s.halted := rfl
@[simp] theorem setSum_waiting (r : Sum) (s : State) : (setSum r s).waiting = s.waiting := rfl
@[simp] theorem setSum_resetPending (r : Sum) (s : State) : (setSum r s).resetPending = s.resetPending := rfl
@[simp] theorem setSum_nmiPending (r : Sum) (s : State) : (setSum r s).nmiPending = s.nmiPending := rfl
@[simp] theorem setSum_irqPending (r : Sum) (s : State) : (setSum r s).irqPending = s.irqPending := rfl
@[simp] theorem setSum_mem (r : Sum) (s : State) : (setSum r s).mem = s.mem := rfl
@[simp] theorem setSum_map (r : Sum) (s : State) : (setSum r s).map = s.map := rfl
@[simp] theorem setSum_answers (r : Sum) (s : State) : (setSum r s).answers = s.answers := rfl
@[simp] theorem setSum_costs (r : Sum) (s : State) : (setSum r s).costs = s.costs := rfl
@[simp] theorem setSum_started (r : Sum) (s : State) : (setSum r s).started = s.started := rfl
@[simp] theorem setSum_bus (r : Sum) (s : State) : (setSum r s).bus = s.bus := rfl

@[simp] theorem tick_variant (s : State) : s.tick.variant = s.variant := rfl
@[simp] theorem tick_a (s : State) : s.tick.a = s.a := rfl
@[simp] theorem tick_x (s : State) : s.tick.x = s.x := rfl
@[simp] theorem tick_y (s : State) : s.tick.y = s.y := rfl
@[simp] theorem tick_sp (s : State) : s.tick.sp = s.sp := rfl
@[simp] theorem tick_p (s : State) : s.tick.p = s.p := rfl
@[simp] theorem tick_pc (s : State) : s.tick.pc = s.pc := rfl
@[simp] theorem tick_cycles (s : State) : s.tick.cycles = s.cycles - 1 := rfl
@[simp] theorem tick_halted (s : State) : s.tick.halted = s.halted := rfl
@[simp] theorem tick_waiting (s : State) : s.tick.waiting = s.waiting := rfl
@[simp] theorem tick_resetPending (s : State) : s.tick.resetPending = s.resetPending := rfl
@[simp] theorem tick_nmiPending (s : State) : s.tick.nmiPending = s.nmiPending := rfl
@[simp] theorem tick_irqPending (s : State) : s.tick.irqPending = s.irqPending := rfl
@[simp] theorem tick_mem (s : State) : s.tick.mem = s.mem := rfl
@[simp] theorem tick_map (s : State) : s.tick.map = s.map := rfl
@[simp] theorem tick_answers (s : State) : s.tick.answers = s.answers := rfl
@[simp] theorem tick_costs (s : State) : s.tick.costs = s.costs := rfl
@[simp] theorem tick_started (s : State) : s.tick.started = s.started := rfl
@[simp] theorem tick_bus (s : State) : s.tick.bus = s.bus := rfl

@[simp] theorem chargeCross_variant (s : State) (crossed : Bool) : (s.chargeCross crossed).variant = s.variant := by
  cases crossed <;> rfl
@[simp] theorem chargeCross_a (s : State) (crossed : Bool) : (s.chargeCross crossed).a = s.a := by
  cases crossed <;> rfl
@[simp] theorem chargeCross_x (s : State) (crossed : Bool) : (s.chargeCross crossed).x = s.x := by
  cases crossed <;> rfl
@[simp] theorem chargeCross_y (s : State) (crossed : Bool) : (s.chargeCross crossed).y = s.y := by
  cases crossed <;> rfl
@[simp] theorem chargeCross_sp (s : State) (crossed : Bool) : (s.chargeCross crossed).sp = s.sp := by
  cases crossed <;> rfl
@[simp] theorem chargeCross_p (s : State) (crossed : Bool) : (s.chargeCross crossed).p = s.p := by
  cases crossed <;> rfl
@[simp] theorem chargeCross_pc (s : State) (crossed : Bool) : (s.chargeCross crossed).pc = s.pc := by
  cases crossed <;> rfl
@[simp] theorem chargeCross_cycles (s : State) (crossed : Bool) : (s.chargeCross crossed).cycles = s.cycles + (if crossed then 1 else 0) := by
  cases crossed <;> rfl
@[simp] theorem chargeCross_halted (s : State) (crossed : Bool) : (s.chargeCross crossed).halted = s.halted := by
  cases crossed <;> rfl
@[simp] theorem chargeCross_waiting (s : State) (crossed : Bool) : (s.chargeCross crossed).waiting = s.waiting := by
  cases crossed <;> rfl
@[simp] theorem chargeCross_resetPending (s : State) (crossed : Bool) : (s.chargeCross crossed).resetPending = s.resetPending := by
  cases crossed <;> rfl
@[simp] theorem chargeCross_nmiPending (s : State) (crossed : Bool) : (s.chargeCross crossed).nmiPending = s.nmiPending := by
  cases crossed <;> rfl
@[simp] theorem chargeCross_irqPending (s : State) (crossed : Bool) : (s.chargeCross crossed).irqPending = s.irqPending := by
  cases crossed <;> rfl
@[simp] theorem chargeCross_mem (s : State) (crossed : Bool) : (s.chargeCross crossed).mem = s.mem := by
  cases crossed <;> rfl
@[simp] theorem chargeCross_map (s : State) (crossed : Bool) : (s.chargeCross crossed).map = s.map := by
  cases crossed <;> rfl
@[simp] theorem chargeCross_answers (s : State) (crossed : Bool) : (s.chargeCross crossed).answers = s.answers := by
  cases crossed <;> rfl
@[simp] theorem chargeCross_costs (s : State) (crossed : Bool) : (s.chargeCross crossed).costs = s.costs := by
  cases crossed <;> rfl
@[simp] theorem chargeCross_started (s : State) (crossed : Bool) : (s.chargeCross crossed).started = s.started := by
  cases crossed <;> rfl
@[simp] theorem chargeCross_bus (s : State) (crossed : Bool) : (s.chargeCross crossed).bus = s.bus := by
  cases crossed <;> rfl
@[simp] theorem takeBranch_variant (target : Word) (crossed : Bool) (s : State) : (takeBranch target crossed s).variant = s.variant := by
  cases crossed <;> rfl
@[simp] theorem takeBranch_a (target : Word) (crossed : Bool) (s : State) : (takeBranch target crossed s).a = s.a := by
  cases crossed <;> rfl
@[simp] theorem takeBranch_x (target : Word) (crossed : Bool) (s : State) : (takeBranch target crossed s).x = s.x := by
  cases crossed <;> rfl
@[simp] theorem takeBranch_y (target : Word) (crossed : Bool) (s : State) : (takeBranch target crossed s).y = s.y := by
  cases crossed <;> rfl
@[simp] theorem takeBranch_sp (target : Word) (crossed : Bool) (s : State) : (takeBranch target crossed s).sp = s.sp := by
  cases crossed <;> rfl
@[simp] theorem takeBranch_p (target : Word) (crossed : Bool) (s : State) : (takeBranch target crossed s).p = s.p := by
  cases crossed <;> rfl
@[simp] theorem takeBranch_pc (target : Word) (crossed : Bool) (s : State) : (takeBranch target crossed s).pc = target := by
  cases crossed <;> rfl
@[simp] theorem takeBranch_cycles (target : Word) (crossed : Bool) (s : State) : (takeBranch target crossed s).cycles = s.cycles + 1 + (if crossed then 1 else 0) := by
  cases crossed <;> rfl
@[simp] theorem takeBranch_halted (target : Word) (crossed : Bool) (s : State) : (takeBranch target crossed s).halted = s.halted := by
  cases crossed <;> rfl
@[simp] theorem takeBranch_waiting (target : Word) (crossed : Bool) (s : State) : (takeBranch target crossed s).waiting = s.waiting := by
  cases crossed <;> rfl
@[simp] theorem takeBranch_resetPending (target : Word) (crossed : Bool) (s : State) : (takeBranch target crossed s).resetPending = s.resetPending := by
  cases crossed <;> rfl
@[simp] theorem takeBranch_nmiPending (target : Word) (crossed : Bool) (s : State) : (takeBranch target crossed s).nmiPending = s.nmiPending := by
  cases crossed <;> rfl
@[simp] theorem takeBranch_irqPending (target : Word) (crossed : Bool) (s : State) : (takeBranch target crossed s).irqPending = s.irqPending := by
  cases crossed <;> rfl
@[simp] theorem takeBranch_mem (target : Word) (crossed : Bool) (s : State) : (takeBranch target crossed s).mem = s.mem := by
  cases crossed <;> rfl
@[simp] theorem takeBranch_map (target : Word) (crossed : Bool) (s : State) : (takeBranch target crossed s).map = s.map := by
  cases crossed <;> rfl
@[simp] theorem takeBranch_answers (target : Word) (crossed : Bool) (s : State) : (takeBranch target crossed s).answers = s.answers := by
  cases crossed <;> rfl
@[simp] theorem takeBranch_costs (target : Word) (crossed : Bool) (s : State) : (takeBranch target crossed s).costs = s.costs := by
  cases crossed <;> rfl
@[simp] theorem takeBranch_started (target : Word) (crossed : Bool) (s : State) : (takeBranch target crossed s).started = s.started := by
  cases crossed <;> rfl
@[simp] theorem takeBranch_bus (target : Word) (crossed : Bool) (s : State) : (takeBranch target crossed s).bus = s.bus := by
  cases crossed <;> rfl

end Sys2Proof.Laws
end

