-- ==== Sys2Proof/Laws/PerInstr.lean ====
section
/-! SUPPORT. The per-instruction family OpcodeRow: an instruction's own opcode byte selects, in the dispatch table, a
row of the instruction's length and, in the NMOS table, a row exactly where NMOS has the instruction. -/

namespace Sys2Proof.Laws.OpcodeRow

/-- The row the opcode byte of `i` selects has the length of `i` (R121), and NMOS has a row for it exactly when it
has the instruction (R123, R130). -/
def Statement (i : Instr) : Prop :=
  (opForm .wdc65c02 i.opcode).map OpForm.length = some i.length ∧
    (opForm .nmos i.opcode).isSome = i.onNmos

theorem ldaIndX (o : Byte) : Statement (.ldaIndX o) := ⟨rfl, rfl⟩
theorem ldaZp (o : Byte) : Statement (.ldaZp o) := ⟨rfl, rfl⟩
theorem ldaImm (v : Byte) : Statement (.ldaImm v) := ⟨rfl, rfl⟩
theorem ldaAbs (w : Word) : Statement (.ldaAbs w) := ⟨rfl, rfl⟩
theorem ldaIndY (o : Byte) : Statement (.ldaIndY o) := ⟨rfl, rfl⟩
theorem ldaZpInd (o : Byte) : Statement (.ldaZpInd o) := ⟨rfl, rfl⟩
theorem ldaZpX (o : Byte) : Statement (.ldaZpX o) := ⟨rfl, rfl⟩
theorem ldaAbsY (w : Word) : Statement (.ldaAbsY w) := ⟨rfl, rfl⟩
theorem ldaAbsX (w : Word) : Statement (.ldaAbsX w) := ⟨rfl, rfl⟩
theorem ldxImm (v : Byte) : Statement (.ldxImm v) := ⟨rfl, rfl⟩
theorem ldxZp (o : Byte) : Statement (.ldxZp o) := ⟨rfl, rfl⟩
theorem ldxAbs (w : Word) : Statement (.ldxAbs w) := ⟨rfl, rfl⟩
theorem ldxZpY (o : Byte) : Statement (.ldxZpY o) := ⟨rfl, rfl⟩
theorem ldxAbsY (w : Word) : Statement (.ldxAbsY w) := ⟨rfl, rfl⟩
theorem ldyImm (v : Byte) : Statement (.ldyImm v) := ⟨rfl, rfl⟩
theorem ldyZp (o : Byte) : Statement (.ldyZp o) := ⟨rfl, rfl⟩
theorem ldyAbs (w : Word) : Statement (.ldyAbs w) := ⟨rfl, rfl⟩
theorem ldyZpX (o : Byte) : Statement (.ldyZpX o) := ⟨rfl, rfl⟩
theorem ldyAbsX (w : Word) : Statement (.ldyAbsX w) := ⟨rfl, rfl⟩
theorem staIndX (o : Byte) : Statement (.staIndX o) := ⟨rfl, rfl⟩
theorem staZp (o : Byte) : Statement (.staZp o) := ⟨rfl, rfl⟩
theorem staAbs (w : Word) : Statement (.staAbs w) := ⟨rfl, rfl⟩
theorem staIndY (o : Byte) : Statement (.staIndY o) := ⟨rfl, rfl⟩
theorem staZpInd (o : Byte) : Statement (.staZpInd o) := ⟨rfl, rfl⟩
theorem staZpX (o : Byte) : Statement (.staZpX o) := ⟨rfl, rfl⟩
theorem staAbsY (w : Word) : Statement (.staAbsY w) := ⟨rfl, rfl⟩
theorem staAbsX (w : Word) : Statement (.staAbsX w) := ⟨rfl, rfl⟩
theorem stxZp (o : Byte) : Statement (.stxZp o) := ⟨rfl, rfl⟩
theorem stxAbs (w : Word) : Statement (.stxAbs w) := ⟨rfl, rfl⟩
theorem stxZpY (o : Byte) : Statement (.stxZpY o) := ⟨rfl, rfl⟩
theorem styZp (o : Byte) : Statement (.styZp o) := ⟨rfl, rfl⟩
theorem styAbs (w : Word) : Statement (.styAbs w) := ⟨rfl, rfl⟩
theorem styZpX (o : Byte) : Statement (.styZpX o) := ⟨rfl, rfl⟩
theorem stzZp (o : Byte) : Statement (.stzZp o) := ⟨rfl, rfl⟩
theorem stzZpX (o : Byte) : Statement (.stzZpX o) := ⟨rfl, rfl⟩
theorem stzAbs (w : Word) : Statement (.stzAbs w) := ⟨rfl, rfl⟩
theorem stzAbsX (w : Word) : Statement (.stzAbsX w) := ⟨rfl, rfl⟩
theorem tax : Statement (.tax) := ⟨rfl, rfl⟩
theorem tay : Statement (.tay) := ⟨rfl, rfl⟩
theorem txa : Statement (.txa) := ⟨rfl, rfl⟩
theorem tya : Statement (.tya) := ⟨rfl, rfl⟩
theorem tsx : Statement (.tsx) := ⟨rfl, rfl⟩
theorem txs : Statement (.txs) := ⟨rfl, rfl⟩
theorem pha : Statement (.pha) := ⟨rfl, rfl⟩
theorem phx : Statement (.phx) := ⟨rfl, rfl⟩
theorem phy : Statement (.phy) := ⟨rfl, rfl⟩
theorem php : Statement (.php) := ⟨rfl, rfl⟩
theorem pla : Statement (.pla) := ⟨rfl, rfl⟩
theorem plx : Statement (.plx) := ⟨rfl, rfl⟩
theorem ply : Statement (.ply) := ⟨rfl, rfl⟩
theorem plp : Statement (.plp) := ⟨rfl, rfl⟩
theorem adcIndX (o : Byte) : Statement (.adcIndX o) := ⟨rfl, rfl⟩
theorem adcZp (o : Byte) : Statement (.adcZp o) := ⟨rfl, rfl⟩
theorem adcImm (v : Byte) : Statement (.adcImm v) := ⟨rfl, rfl⟩
theorem adcAbs (w : Word) : Statement (.adcAbs w) := ⟨rfl, rfl⟩
theorem adcIndY (o : Byte) : Statement (.adcIndY o) := ⟨rfl, rfl⟩
theorem adcZpInd (o : Byte) : Statement (.adcZpInd o) := ⟨rfl, rfl⟩
theorem adcZpX (o : Byte) : Statement (.adcZpX o) := ⟨rfl, rfl⟩
theorem adcAbsY (w : Word) : Statement (.adcAbsY w) := ⟨rfl, rfl⟩
theorem adcAbsX (w : Word) : Statement (.adcAbsX w) := ⟨rfl, rfl⟩
theorem sbcIndX (o : Byte) : Statement (.sbcIndX o) := ⟨rfl, rfl⟩
theorem sbcZp (o : Byte) : Statement (.sbcZp o) := ⟨rfl, rfl⟩
theorem sbcImm (v : Byte) : Statement (.sbcImm v) := ⟨rfl, rfl⟩
theorem sbcAbs (w : Word) : Statement (.sbcAbs w) := ⟨rfl, rfl⟩
theorem sbcIndY (o : Byte) : Statement (.sbcIndY o) := ⟨rfl, rfl⟩
theorem sbcZpInd (o : Byte) : Statement (.sbcZpInd o) := ⟨rfl, rfl⟩
theorem sbcZpX (o : Byte) : Statement (.sbcZpX o) := ⟨rfl, rfl⟩
theorem sbcAbsY (w : Word) : Statement (.sbcAbsY w) := ⟨rfl, rfl⟩
theorem sbcAbsX (w : Word) : Statement (.sbcAbsX w) := ⟨rfl, rfl⟩
theorem cmpIndX (o : Byte) : Statement (.cmpIndX o) := ⟨rfl, rfl⟩
theorem cmpZp (o : Byte) : Statement (.cmpZp o) := ⟨rfl, rfl⟩
theorem cmpImm (v : Byte) : Statement (.cmpImm v) := ⟨rfl, rfl⟩
theorem cmpAbs (w : Word) : Statement (.cmpAbs w) := ⟨rfl, rfl⟩
theorem cmpIndY (o : Byte) : Statement (.cmpIndY o) := ⟨rfl, rfl⟩
theorem cmpZpInd (o : Byte) : Statement (.cmpZpInd o) := ⟨rfl, rfl⟩
theorem cmpZpX (o : Byte) : Statement (.cmpZpX o) := ⟨rfl, rfl⟩
theorem cmpAbsY (w : Word) : Statement (.cmpAbsY w) := ⟨rfl, rfl⟩
theorem cmpAbsX (w : Word) : Statement (.cmpAbsX w) := ⟨rfl, rfl⟩
theorem cpxImm (v : Byte) : Statement (.cpxImm v) := ⟨rfl, rfl⟩
theorem cpxZp (o : Byte) : Statement (.cpxZp o) := ⟨rfl, rfl⟩
theorem cpxAbs (w : Word) : Statement (.cpxAbs w) := ⟨rfl, rfl⟩
theorem cpyImm (v : Byte) : Statement (.cpyImm v) := ⟨rfl, rfl⟩
theorem cpyZp (o : Byte) : Statement (.cpyZp o) := ⟨rfl, rfl⟩
theorem cpyAbs (w : Word) : Statement (.cpyAbs w) := ⟨rfl, rfl⟩
theorem incA : Statement (.incA) := ⟨rfl, rfl⟩
theorem incZp (o : Byte) : Statement (.incZp o) := ⟨rfl, rfl⟩
theorem incAbs (w : Word) : Statement (.incAbs w) := ⟨rfl, rfl⟩
theorem incZpX (o : Byte) : Statement (.incZpX o) := ⟨rfl, rfl⟩
theorem incAbsX (w : Word) : Statement (.incAbsX w) := ⟨rfl, rfl⟩
theorem decA : Statement (.decA) := ⟨rfl, rfl⟩
theorem decZp (o : Byte) : Statement (.decZp o) := ⟨rfl, rfl⟩
theorem decAbs (w : Word) : Statement (.decAbs w) := ⟨rfl, rfl⟩
theorem decZpX (o : Byte) : Statement (.decZpX o) := ⟨rfl, rfl⟩
theorem decAbsX (w : Word) : Statement (.decAbsX w) := ⟨rfl, rfl⟩
theorem inx : Statement (.inx) := ⟨rfl, rfl⟩
theorem dex : Statement (.dex) := ⟨rfl, rfl⟩
theorem iny : Statement (.iny) := ⟨rfl, rfl⟩
theorem dey : Statement (.dey) := ⟨rfl, rfl⟩
theorem aslZp (o : Byte) : Statement (.aslZp o) := ⟨rfl, rfl⟩
theorem aslA : Statement (.aslA) := ⟨rfl, rfl⟩
theorem aslAbs (w : Word) : Statement (.aslAbs w) := ⟨rfl, rfl⟩
theorem aslZpX (o : Byte) : Statement (.aslZpX o) := ⟨rfl, rfl⟩
theorem aslAbsX (w : Word) : Statement (.aslAbsX w) := ⟨rfl, rfl⟩
theorem lsrZp (o : Byte) : Statement (.lsrZp o) := ⟨rfl, rfl⟩
theorem lsrA : Statement (.lsrA) := ⟨rfl, rfl⟩
theorem lsrAbs (w : Word) : Statement (.lsrAbs w) := ⟨rfl, rfl⟩
theorem lsrZpX (o : Byte) : Statement (.lsrZpX o) := ⟨rfl, rfl⟩
theorem lsrAbsX (w : Word) : Statement (.lsrAbsX w) := ⟨rfl, rfl⟩
theorem rolZp (o : Byte) : Statement (.rolZp o) := ⟨rfl, rfl⟩
theorem rolA : Statement (.rolA) := ⟨rfl, rfl⟩
theorem rolAbs (w : Word) : Statement (.rolAbs w) := ⟨rfl, rfl⟩
theorem rolZpX (o : Byte) : Statement (.rolZpX o) := ⟨rfl, rfl⟩
theorem rolAbsX (w : Word) : Statement (.rolAbsX w) := ⟨rfl, rfl⟩
theorem rorZp (o : Byte) : Statement (.rorZp o) := ⟨rfl, rfl⟩
theorem rorA : Statement (.rorA) := ⟨rfl, rfl⟩
theorem rorAbs (w : Word) : Statement (.rorAbs w) := ⟨rfl, rfl⟩
theorem rorZpX (o : Byte) : Statement (.rorZpX o) := ⟨rfl, rfl⟩
theorem rorAbsX (w : Word) : Statement (.rorAbsX w) := ⟨rfl, rfl⟩
theorem andIndX (o : Byte) : Statement (.andIndX o) := ⟨rfl, rfl⟩
theorem andZp (o : Byte) : Statement (.andZp o) := ⟨rfl, rfl⟩
theorem andImm (v : Byte) : Statement (.andImm v) := ⟨rfl, rfl⟩
theorem andAbs (w : Word) : Statement (.andAbs w) := ⟨rfl, rfl⟩
theorem andIndY (o : Byte) : Statement (.andIndY o) := ⟨rfl, rfl⟩
theorem andZpInd (o : Byte) : Statement (.andZpInd o) := ⟨rfl, rfl⟩
theorem andZpX (o : Byte) : Statement (.andZpX o) := ⟨rfl, rfl⟩
theorem andAbsY (w : Word) : Statement (.andAbsY w) := ⟨rfl, rfl⟩
theorem andAbsX (w : Word) : Statement (.andAbsX w) := ⟨rfl, rfl⟩
theorem oraIndX (o : Byte) : Statement (.oraIndX o) := ⟨rfl, rfl⟩
theorem oraZp (o : Byte) : Statement (.oraZp o) := ⟨rfl, rfl⟩
theorem oraImm (v : Byte) : Statement (.oraImm v) := ⟨rfl, rfl⟩
theorem oraAbs (w : Word) : Statement (.oraAbs w) := ⟨rfl, rfl⟩
theorem oraIndY (o : Byte) : Statement (.oraIndY o) := ⟨rfl, rfl⟩
theorem oraZpInd (o : Byte) : Statement (.oraZpInd o) := ⟨rfl, rfl⟩
theorem oraZpX (o : Byte) : Statement (.oraZpX o) := ⟨rfl, rfl⟩
theorem oraAbsY (w : Word) : Statement (.oraAbsY w) := ⟨rfl, rfl⟩
theorem oraAbsX (w : Word) : Statement (.oraAbsX w) := ⟨rfl, rfl⟩
theorem eorIndX (o : Byte) : Statement (.eorIndX o) := ⟨rfl, rfl⟩
theorem eorZp (o : Byte) : Statement (.eorZp o) := ⟨rfl, rfl⟩
theorem eorImm (v : Byte) : Statement (.eorImm v) := ⟨rfl, rfl⟩
theorem eorAbs (w : Word) : Statement (.eorAbs w) := ⟨rfl, rfl⟩
theorem eorIndY (o : Byte) : Statement (.eorIndY o) := ⟨rfl, rfl⟩
theorem eorZpInd (o : Byte) : Statement (.eorZpInd o) := ⟨rfl, rfl⟩
theorem eorZpX (o : Byte) : Statement (.eorZpX o) := ⟨rfl, rfl⟩
theorem eorAbsY (w : Word) : Statement (.eorAbsY w) := ⟨rfl, rfl⟩
theorem eorAbsX (w : Word) : Statement (.eorAbsX w) := ⟨rfl, rfl⟩
theorem bitZp (o : Byte) : Statement (.bitZp o) := ⟨rfl, rfl⟩
theorem bitAbs (w : Word) : Statement (.bitAbs w) := ⟨rfl, rfl⟩
theorem bitZpX (o : Byte) : Statement (.bitZpX o) := ⟨rfl, rfl⟩
theorem bitAbsX (w : Word) : Statement (.bitAbsX w) := ⟨rfl, rfl⟩
theorem bitImm (v : Byte) : Statement (.bitImm v) := ⟨rfl, rfl⟩
theorem tsbZp (o : Byte) : Statement (.tsbZp o) := ⟨rfl, rfl⟩
theorem tsbAbs (w : Word) : Statement (.tsbAbs w) := ⟨rfl, rfl⟩
theorem trbZp (o : Byte) : Statement (.trbZp o) := ⟨rfl, rfl⟩
theorem trbAbs (w : Word) : Statement (.trbAbs w) := ⟨rfl, rfl⟩
theorem jmpAbs (w : Word) : Statement (.jmpAbs w) := ⟨rfl, rfl⟩
theorem jmpInd (w : Word) : Statement (.jmpInd w) := ⟨rfl, rfl⟩
theorem jmpAbsIndX (w : Word) : Statement (.jmpAbsIndX w) := ⟨rfl, rfl⟩
theorem jsr (w : Word) : Statement (.jsr w) := ⟨rfl, rfl⟩
theorem rts : Statement (.rts) := ⟨rfl, rfl⟩
theorem rti : Statement (.rti) := ⟨rfl, rfl⟩
theorem brk : Statement (.brk) := ⟨rfl, rfl⟩
theorem bcc (off : Byte) : Statement (.bcc off) := ⟨rfl, rfl⟩
theorem bcs (off : Byte) : Statement (.bcs off) := ⟨rfl, rfl⟩
theorem beq (off : Byte) : Statement (.beq off) := ⟨rfl, rfl⟩
theorem bne (off : Byte) : Statement (.bne off) := ⟨rfl, rfl⟩
theorem bmi (off : Byte) : Statement (.bmi off) := ⟨rfl, rfl⟩
theorem bpl (off : Byte) : Statement (.bpl off) := ⟨rfl, rfl⟩
theorem bvc (off : Byte) : Statement (.bvc off) := ⟨rfl, rfl⟩
theorem bvs (off : Byte) : Statement (.bvs off) := ⟨rfl, rfl⟩
theorem bra (off : Byte) : Statement (.bra off) := ⟨rfl, rfl⟩
theorem clc : Statement (.clc) := ⟨rfl, rfl⟩
theorem sec : Statement (.sec) := ⟨rfl, rfl⟩
theorem cli : Statement (.cli) := ⟨rfl, rfl⟩
theorem sei : Statement (.sei) := ⟨rfl, rfl⟩
theorem cld : Statement (.cld) := ⟨rfl, rfl⟩
theorem sed : Statement (.sed) := ⟨rfl, rfl⟩
theorem clv : Statement (.clv) := ⟨rfl, rfl⟩
theorem nop : Statement (.nop) := ⟨rfl, rfl⟩
theorem rmb0 (o : Byte) : Statement (.rmb0 o) := ⟨rfl, rfl⟩
theorem rmb1 (o : Byte) : Statement (.rmb1 o) := ⟨rfl, rfl⟩
theorem rmb2 (o : Byte) : Statement (.rmb2 o) := ⟨rfl, rfl⟩
theorem rmb3 (o : Byte) : Statement (.rmb3 o) := ⟨rfl, rfl⟩
theorem rmb4 (o : Byte) : Statement (.rmb4 o) := ⟨rfl, rfl⟩
theorem rmb5 (o : Byte) : Statement (.rmb5 o) := ⟨rfl, rfl⟩
theorem rmb6 (o : Byte) : Statement (.rmb6 o) := ⟨rfl, rfl⟩
theorem rmb7 (o : Byte) : Statement (.rmb7 o) := ⟨rfl, rfl⟩
theorem smb0 (o : Byte) : Statement (.smb0 o) := ⟨rfl, rfl⟩
theorem smb1 (o : Byte) : Statement (.smb1 o) := ⟨rfl, rfl⟩
theorem smb2 (o : Byte) : Statement (.smb2 o) := ⟨rfl, rfl⟩
theorem smb3 (o : Byte) : Statement (.smb3 o) := ⟨rfl, rfl⟩
theorem smb4 (o : Byte) : Statement (.smb4 o) := ⟨rfl, rfl⟩
theorem smb5 (o : Byte) : Statement (.smb5 o) := ⟨rfl, rfl⟩
theorem smb6 (o : Byte) : Statement (.smb6 o) := ⟨rfl, rfl⟩
theorem smb7 (o : Byte) : Statement (.smb7 o) := ⟨rfl, rfl⟩
theorem bbr0 (zp : Byte) (off : Byte) : Statement (.bbr0 zp off) := ⟨rfl, rfl⟩
theorem bbr1 (zp : Byte) (off : Byte) : Statement (.bbr1 zp off) := ⟨rfl, rfl⟩
theorem bbr2 (zp : Byte) (off : Byte) : Statement (.bbr2 zp off) := ⟨rfl, rfl⟩
theorem bbr3 (zp : Byte) (off : Byte) : Statement (.bbr3 zp off) := ⟨rfl, rfl⟩
theorem bbr4 (zp : Byte) (off : Byte) : Statement (.bbr4 zp off) := ⟨rfl, rfl⟩
theorem bbr5 (zp : Byte) (off : Byte) : Statement (.bbr5 zp off) := ⟨rfl, rfl⟩
theorem bbr6 (zp : Byte) (off : Byte) : Statement (.bbr6 zp off) := ⟨rfl, rfl⟩
theorem bbr7 (zp : Byte) (off : Byte) : Statement (.bbr7 zp off) := ⟨rfl, rfl⟩
theorem bbs0 (zp : Byte) (off : Byte) : Statement (.bbs0 zp off) := ⟨rfl, rfl⟩
theorem bbs1 (zp : Byte) (off : Byte) : Statement (.bbs1 zp off) := ⟨rfl, rfl⟩
theorem bbs2 (zp : Byte) (off : Byte) : Statement (.bbs2 zp off) := ⟨rfl, rfl⟩
theorem bbs3 (zp : Byte) (off : Byte) : Statement (.bbs3 zp off) := ⟨rfl, rfl⟩
theorem bbs4 (zp : Byte) (off : Byte) : Statement (.bbs4 zp off) := ⟨rfl, rfl⟩
theorem bbs5 (zp : Byte) (off : Byte) : Statement (.bbs5 zp off) := ⟨rfl, rfl⟩
theorem bbs6 (zp : Byte) (off : Byte) : Statement (.bbs6 zp off) := ⟨rfl, rfl⟩
theorem bbs7 (zp : Byte) (off : Byte) : Statement (.bbs7 zp off) := ⟨rfl, rfl⟩
theorem nop02 (v : Byte) : Statement (.nop02 v) := ⟨rfl, rfl⟩
theorem nop22 (v : Byte) : Statement (.nop22 v) := ⟨rfl, rfl⟩
theorem nop42 (v : Byte) : Statement (.nop42 v) := ⟨rfl, rfl⟩
theorem nop44 (o : Byte) : Statement (.nop44 o) := ⟨rfl, rfl⟩
theorem nop54 (o : Byte) : Statement (.nop54 o) := ⟨rfl, rfl⟩
theorem nop5C (w : Word) : Statement (.nop5C w) := ⟨rfl, rfl⟩
theorem nop62 (v : Byte) : Statement (.nop62 v) := ⟨rfl, rfl⟩
theorem nop82 (v : Byte) : Statement (.nop82 v) := ⟨rfl, rfl⟩
theorem nopC2 (v : Byte) : Statement (.nopC2 v) := ⟨rfl, rfl⟩
theorem nopD4 (o : Byte) : Statement (.nopD4 o) := ⟨rfl, rfl⟩
theorem nopDC (w : Word) : Statement (.nopDC w) := ⟨rfl, rfl⟩
theorem nopE2 (v : Byte) : Statement (.nopE2 v) := ⟨rfl, rfl⟩
theorem nopF4 (o : Byte) : Statement (.nopF4 o) := ⟨rfl, rfl⟩
theorem nopFC (w : Word) : Statement (.nopFC w) := ⟨rfl, rfl⟩
theorem wai : Statement (.wai) := ⟨rfl, rfl⟩
theorem stp : Statement (.stp) := ⟨rfl, rfl⟩
theorem nop03 : Statement (.nop03) := ⟨rfl, rfl⟩
theorem nop0B : Statement (.nop0B) := ⟨rfl, rfl⟩
theorem nop13 : Statement (.nop13) := ⟨rfl, rfl⟩
theorem nop1B : Statement (.nop1B) := ⟨rfl, rfl⟩
theorem nop23 : Statement (.nop23) := ⟨rfl, rfl⟩
theorem nop2B : Statement (.nop2B) := ⟨rfl, rfl⟩
theorem nop33 : Statement (.nop33) := ⟨rfl, rfl⟩
theorem nop3B : Statement (.nop3B) := ⟨rfl, rfl⟩
theorem nop43 : Statement (.nop43) := ⟨rfl, rfl⟩
theorem nop4B : Statement (.nop4B) := ⟨rfl, rfl⟩
theorem nop53 : Statement (.nop53) := ⟨rfl, rfl⟩
theorem nop5B : Statement (.nop5B) := ⟨rfl, rfl⟩
theorem nop63 : Statement (.nop63) := ⟨rfl, rfl⟩
theorem nop6B : Statement (.nop6B) := ⟨rfl, rfl⟩
theorem nop73 : Statement (.nop73) := ⟨rfl, rfl⟩
theorem nop7B : Statement (.nop7B) := ⟨rfl, rfl⟩
theorem nop83 : Statement (.nop83) := ⟨rfl, rfl⟩
theorem nop8B : Statement (.nop8B) := ⟨rfl, rfl⟩
theorem nop93 : Statement (.nop93) := ⟨rfl, rfl⟩
theorem nop9B : Statement (.nop9B) := ⟨rfl, rfl⟩
theorem nopA3 : Statement (.nopA3) := ⟨rfl, rfl⟩
theorem nopAB : Statement (.nopAB) := ⟨rfl, rfl⟩
theorem nopB3 : Statement (.nopB3) := ⟨rfl, rfl⟩
theorem nopBB : Statement (.nopBB) := ⟨rfl, rfl⟩
theorem nopC3 : Statement (.nopC3) := ⟨rfl, rfl⟩
theorem nopD3 : Statement (.nopD3) := ⟨rfl, rfl⟩
theorem nopE3 : Statement (.nopE3) := ⟨rfl, rfl⟩
theorem nopEB : Statement (.nopEB) := ⟨rfl, rfl⟩
theorem nopF3 : Statement (.nopF3) := ⟨rfl, rfl⟩
theorem nopFB : Statement (.nopFB) := ⟨rfl, rfl⟩

end Sys2Proof.Laws.OpcodeRow
end

