-- ==== Sys2Proof/Laws/Encoding.lean ====
section
/-! SUPPORT. The dispatch table and the encoder agree row by row, and what the NMOS table leaves out. -/

namespace Sys2Proof.Laws

/-- A row of the table builds instructions whose encoding is its opcode byte and the operand bytes in order (R120,
R122). -/
def rowEncodes (b : Byte) : OpForm → Prop
  | .f1 i => encode i = [b]
  | .f2 build => ∀ o, encode (build o) = [b, o]
  | .f3 build => ∀ w, encode (build w) = [b, lo w, hi w]
  | .f3zr build => ∀ zp off, encode (build zp off) = [b, zp, off]

/-- Every row of a table that starts at byte `n`. -/
def rowsEncode : Nat → List OpForm → Prop
  | _, [] => True
  | n, f :: fs => rowEncodes (BitVec.ofNat 8 n) f ∧ rowsEncode (n + 1) fs

theorem rowsEncode_append (n : Nat) (a b : List OpForm) :
    rowsEncode n (a ++ b) ↔ rowsEncode n a ∧ rowsEncode (n + a.length) b := by
  induction a generalizing n with
  | nil => simp [rowsEncode]
  | cons x xs ih => simp [rowsEncode, ih, and_assoc, show n + 1 + xs.length = n + (xs.length + 1) by omega]

theorem rowsEncode_get (n : Nat) (l : List OpForm) (h : rowsEncode n l) (k : Nat) (f : OpForm)
    (hk : l[k]? = some f) : rowEncodes (BitVec.ofNat 8 (n + k)) f := by
  induction l generalizing n k with
  | nil => simp at hk
  | cons g gs ih =>
    cases k with
    | zero =>
      simp only [List.getElem?_cons_zero, Option.some.injEq] at hk
      subst hk
      exact h.1
    | succ k =>
      have := ih (n + 1) h.2 k (by simpa using hk)
      rwa [show n + 1 + k = n + (k + 1) by omega] at this

theorem opRow0_length : opRow0.length = 16 := rfl

theorem opRow0_encodes : rowsEncode 0 opRow0 := by
  repeat' first | exact trivial | apply And.intro | rfl | (intro _; rfl) | (intro _ _; rfl)

theorem opRow1_length : opRow1.length = 16 := rfl

theorem opRow1_encodes : rowsEncode 16 opRow1 := by
  repeat' first | exact trivial | apply And.intro | rfl | (intro _; rfl) | (intro _ _; rfl)

theorem opRow2_length : opRow2.length = 16 := rfl

theorem opRow2_encodes : rowsEncode 32 opRow2 := by
  repeat' first | exact trivial | apply And.intro | rfl | (intro _; rfl) | (intro _ _; rfl)

theorem opRow3_length : opRow3.length = 16 := rfl

theorem opRow3_encodes : rowsEncode 48 opRow3 := by
  repeat' first | exact trivial | apply And.intro | rfl | (intro _; rfl) | (intro _ _; rfl)

theorem opRow4_length : opRow4.length = 16 := rfl

theorem opRow4_encodes : rowsEncode 64 opRow4 := by
  repeat' first | exact trivial | apply And.intro | rfl | (intro _; rfl) | (intro _ _; rfl)

theorem opRow5_length : opRow5.length = 16 := rfl

theorem opRow5_encodes : rowsEncode 80 opRow5 := by
  repeat' first | exact trivial | apply And.intro | rfl | (intro _; rfl) | (intro _ _; rfl)

theorem opRow6_length : opRow6.length = 16 := rfl

theorem opRow6_encodes : rowsEncode 96 opRow6 := by
  repeat' first | exact trivial | apply And.intro | rfl | (intro _; rfl) | (intro _ _; rfl)

theorem opRow7_length : opRow7.length = 16 := rfl

theorem opRow7_encodes : rowsEncode 112 opRow7 := by
  repeat' first | exact trivial | apply And.intro | rfl | (intro _; rfl) | (intro _ _; rfl)

theorem opRow8_length : opRow8.length = 16 := rfl

theorem opRow8_encodes : rowsEncode 128 opRow8 := by
  repeat' first | exact trivial | apply And.intro | rfl | (intro _; rfl) | (intro _ _; rfl)

theorem opRow9_length : opRow9.length = 16 := rfl

theorem opRow9_encodes : rowsEncode 144 opRow9 := by
  repeat' first | exact trivial | apply And.intro | rfl | (intro _; rfl) | (intro _ _; rfl)

theorem opRowA_length : opRowA.length = 16 := rfl

theorem opRowA_encodes : rowsEncode 160 opRowA := by
  repeat' first | exact trivial | apply And.intro | rfl | (intro _; rfl) | (intro _ _; rfl)

theorem opRowB_length : opRowB.length = 16 := rfl

theorem opRowB_encodes : rowsEncode 176 opRowB := by
  repeat' first | exact trivial | apply And.intro | rfl | (intro _; rfl) | (intro _ _; rfl)

theorem opRowC_length : opRowC.length = 16 := rfl

theorem opRowC_encodes : rowsEncode 192 opRowC := by
  repeat' first | exact trivial | apply And.intro | rfl | (intro _; rfl) | (intro _ _; rfl)

theorem opRowD_length : opRowD.length = 16 := rfl

theorem opRowD_encodes : rowsEncode 208 opRowD := by
  repeat' first | exact trivial | apply And.intro | rfl | (intro _; rfl) | (intro _ _; rfl)

theorem opRowE_length : opRowE.length = 16 := rfl

theorem opRowE_encodes : rowsEncode 224 opRowE := by
  repeat' first | exact trivial | apply And.intro | rfl | (intro _; rfl) | (intro _ _; rfl)

theorem opRowF_encodes : rowsEncode 240 opRowF := by
  repeat' first | exact trivial | apply And.intro | rfl | (intro _; rfl) | (intro _ _; rfl)

/-- Every row of the dispatch table agrees with the encoder. -/
theorem opTable_encodes : rowsEncode 0 opTable := by
  unfold opTable
  simp only [rowsEncode_append, List.length_append, opRow0_length, opRow1_length, opRow2_length, opRow3_length, opRow4_length, opRow5_length,
    opRow6_length, opRow7_length, opRow8_length, opRow9_length, opRowA_length, opRowB_length,
    opRowC_length, opRowD_length, opRowE_length, Nat.reduceAdd]
  exact ⟨⟨⟨⟨⟨⟨⟨⟨⟨⟨⟨⟨⟨⟨⟨opRow0_encodes, opRow1_encodes⟩, opRow2_encodes⟩, opRow3_encodes⟩, opRow4_encodes⟩,
    opRow5_encodes⟩, opRow6_encodes⟩, opRow7_encodes⟩, opRow8_encodes⟩, opRow9_encodes⟩, opRowA_encodes⟩,
    opRowB_encodes⟩, opRowC_encodes⟩, opRowD_encodes⟩, opRowE_encodes⟩, opRowF_encodes⟩

/-- The row an opcode byte selects, in either variant, agrees with the encoder. -/
theorem rowEncodes_of_opForm (v : Variant) (b : Byte) (f : OpForm) (h : opForm v b = some f) : rowEncodes b f := by
  have ht : opTable[b.toNat]? = some f := by
    cases v with
    | wdc65c02 => exact h
    | nmos =>
      unfold opForm at h
      simp only at h
      split at h
      · cases h
      · exact h
  have := rowsEncode_get 0 opTable opTable_encodes b.toNat f ht
  rwa [Nat.zero_add, BitVec.ofNat_toNat, BitVec.setWidth_eq] at this

/-- A byte with a row in the NMOS table has the same row there as on WDC65C02 (R124). -/
theorem opForm_nmos_of_some (b : Byte) (h : (opForm .nmos b).isSome = true) :
    opForm .nmos b = opForm .wdc65c02 b := by
  unfold opForm at h ⊢
  simp only at h ⊢
  split at h
  · cases h
  · next hc => rw [if_neg hc]

end Sys2Proof.Laws
end

