-- ==== Sys2Proof/Laws/Exec.lean ====
section
/-! SUPPORT. What `exec` answers for each constructor, over the shared operations: one equation each, true by rfl,
so that no proof unfolds `exec`. -/

namespace Sys2Proof.Laws

open Sys2Proof.Machine

@[simp] theorem exec_ldaIndX (o : Byte) (s : State) :
    exec (.ldaIndX o) s = .next (lda (.indX o) s) := rfl
@[simp] theorem exec_ldaZp (o : Byte) (s : State) :
    exec (.ldaZp o) s = .next (lda (.zp o) s) := rfl
@[simp] theorem exec_ldaImm (v : Byte) (s : State) :
    exec (.ldaImm v) s = .next (lda (.imm v) s) := rfl
@[simp] theorem exec_ldaAbs (w : Word) (s : State) :
    exec (.ldaAbs w) s = .next (lda (.abs w) s) := rfl
@[simp] theorem exec_ldaIndY (o : Byte) (s : State) :
    exec (.ldaIndY o) s = .next (lda (.indY o) s) := rfl
@[simp] theorem exec_ldaZpInd (o : Byte) (s : State) :
    exec (.ldaZpInd o) s = .next (lda (.zpInd o) s) := rfl
@[simp] theorem exec_ldaZpX (o : Byte) (s : State) :
    exec (.ldaZpX o) s = .next (lda (.zpX o) s) := rfl
@[simp] theorem exec_ldaAbsY (w : Word) (s : State) :
    exec (.ldaAbsY w) s = .next (lda (.absY w) s) := rfl
@[simp] theorem exec_ldaAbsX (w : Word) (s : State) :
    exec (.ldaAbsX w) s = .next (lda (.absX w) s) := rfl
@[simp] theorem exec_ldxImm (v : Byte) (s : State) :
    exec (.ldxImm v) s = .next (ldx (.imm v) s) := rfl
@[simp] theorem exec_ldxZp (o : Byte) (s : State) :
    exec (.ldxZp o) s = .next (ldx (.zp o) s) := rfl
@[simp] theorem exec_ldxAbs (w : Word) (s : State) :
    exec (.ldxAbs w) s = .next (ldx (.abs w) s) := rfl
@[simp] theorem exec_ldxZpY (o : Byte) (s : State) :
    exec (.ldxZpY o) s = .next (ldx (.zpY o) s) := rfl
@[simp] theorem exec_ldxAbsY (w : Word) (s : State) :
    exec (.ldxAbsY w) s = .next (ldx (.absY w) s) := rfl
@[simp] theorem exec_ldyImm (v : Byte) (s : State) :
    exec (.ldyImm v) s = .next (ldy (.imm v) s) := rfl
@[simp] theorem exec_ldyZp (o : Byte) (s : State) :
    exec (.ldyZp o) s = .next (ldy (.zp o) s) := rfl
@[simp] theorem exec_ldyAbs (w : Word) (s : State) :
    exec (.ldyAbs w) s = .next (ldy (.abs w) s) := rfl
@[simp] theorem exec_ldyZpX (o : Byte) (s : State) :
    exec (.ldyZpX o) s = .next (ldy (.zpX o) s) := rfl
@[simp] theorem exec_ldyAbsX (w : Word) (s : State) :
    exec (.ldyAbsX w) s = .next (ldy (.absX w) s) := rfl
@[simp] theorem exec_staIndX (o : Byte) (s : State) :
    exec (.staIndX o) s = .next (sta (.indX o) s) := rfl
@[simp] theorem exec_staZp (o : Byte) (s : State) :
    exec (.staZp o) s = .next (sta (.zp o) s) := rfl
@[simp] theorem exec_staAbs (w : Word) (s : State) :
    exec (.staAbs w) s = .next (sta (.abs w) s) := rfl
@[simp] theorem exec_staIndY (o : Byte) (s : State) :
    exec (.staIndY o) s = .next (sta (.indY o) s) := rfl
@[simp] theorem exec_staZpInd (o : Byte) (s : State) :
    exec (.staZpInd o) s = .next (sta (.zpInd o) s) := rfl
@[simp] theorem exec_staZpX (o : Byte) (s : State) :
    exec (.staZpX o) s = .next (sta (.zpX o) s) := rfl
@[simp] theorem exec_staAbsY (w : Word) (s : State) :
    exec (.staAbsY w) s = .next (sta (.absY w) s) := rfl
@[simp] theorem exec_staAbsX (w : Word) (s : State) :
    exec (.staAbsX w) s = .next (sta (.absX w) s) := rfl
@[simp] theorem exec_stxZp (o : Byte) (s : State) :
    exec (.stxZp o) s = .next (stx (.zp o) s) := rfl
@[simp] theorem exec_stxAbs (w : Word) (s : State) :
    exec (.stxAbs w) s = .next (stx (.abs w) s) := rfl
@[simp] theorem exec_stxZpY (o : Byte) (s : State) :
    exec (.stxZpY o) s = .next (stx (.zpY o) s) := rfl
@[simp] theorem exec_styZp (o : Byte) (s : State) :
    exec (.styZp o) s = .next (sty (.zp o) s) := rfl
@[simp] theorem exec_styAbs (w : Word) (s : State) :
    exec (.styAbs w) s = .next (sty (.abs w) s) := rfl
@[simp] theorem exec_styZpX (o : Byte) (s : State) :
    exec (.styZpX o) s = .next (sty (.zpX o) s) := rfl
@[simp] theorem exec_stzZp (o : Byte) (s : State) :
    exec (.stzZp o) s = .next (stz (.zp o) s) := rfl
@[simp] theorem exec_stzZpX (o : Byte) (s : State) :
    exec (.stzZpX o) s = .next (stz (.zpX o) s) := rfl
@[simp] theorem exec_stzAbs (w : Word) (s : State) :
    exec (.stzAbs w) s = .next (stz (.abs w) s) := rfl
@[simp] theorem exec_stzAbsX (w : Word) (s : State) :
    exec (.stzAbsX w) s = .next (stz (.absX w) s) := rfl
@[simp] theorem exec_tax (s : State) : exec .tax s = .next (setX s.a s) := rfl
@[simp] theorem exec_tay (s : State) : exec .tay s = .next (setY s.a s) := rfl
@[simp] theorem exec_txa (s : State) : exec .txa s = .next (setA s.x s) := rfl
@[simp] theorem exec_tya (s : State) : exec .tya s = .next (setA s.y s) := rfl
@[simp] theorem exec_tsx (s : State) : exec .tsx s = .next (setX s.sp s) := rfl
@[simp] theorem exec_txs (s : State) : exec .txs s = .next ({ s with sp := s.x }) := rfl
@[simp] theorem exec_pha (s : State) : exec .pha s = .next (s.push s.a) := rfl
@[simp] theorem exec_phx (s : State) : exec .phx s = .next (s.push s.x) := rfl
@[simp] theorem exec_phy (s : State) : exec .phy s = .next (s.push s.y) := rfl
@[simp] theorem exec_php (s : State) : exec .php s = .next (s.push (stackedByBrk s.p)) := rfl
@[simp] theorem exec_pla (s : State) : exec .pla s = .next (setA s.pull.1 s.pull.2) := rfl
@[simp] theorem exec_plx (s : State) : exec .plx s = .next (setX s.pull.1 s.pull.2) := rfl
@[simp] theorem exec_ply (s : State) : exec .ply s = .next (setY s.pull.1 s.pull.2) := rfl
@[simp] theorem exec_plp (s : State) : exec .plp s = .next ({ s.pull.2 with p := pulledStatus s.pull.1 }) := rfl
@[simp] theorem exec_adcIndX (o : Byte) (s : State) :
    exec (.adcIndX o) s = .next (adc (.indX o) s) := rfl
@[simp] theorem exec_adcZp (o : Byte) (s : State) :
    exec (.adcZp o) s = .next (adc (.zp o) s) := rfl
@[simp] theorem exec_adcImm (v : Byte) (s : State) :
    exec (.adcImm v) s = .next (adc (.imm v) s) := rfl
@[simp] theorem exec_adcAbs (w : Word) (s : State) :
    exec (.adcAbs w) s = .next (adc (.abs w) s) := rfl
@[simp] theorem exec_adcIndY (o : Byte) (s : State) :
    exec (.adcIndY o) s = .next (adc (.indY o) s) := rfl
@[simp] theorem exec_adcZpInd (o : Byte) (s : State) :
    exec (.adcZpInd o) s = .next (adc (.zpInd o) s) := rfl
@[simp] theorem exec_adcZpX (o : Byte) (s : State) :
    exec (.adcZpX o) s = .next (adc (.zpX o) s) := rfl
@[simp] theorem exec_adcAbsY (w : Word) (s : State) :
    exec (.adcAbsY w) s = .next (adc (.absY w) s) := rfl
@[simp] theorem exec_adcAbsX (w : Word) (s : State) :
    exec (.adcAbsX w) s = .next (adc (.absX w) s) := rfl
@[simp] theorem exec_sbcIndX (o : Byte) (s : State) :
    exec (.sbcIndX o) s = .next (sbc (.indX o) s) := rfl
@[simp] theorem exec_sbcZp (o : Byte) (s : State) :
    exec (.sbcZp o) s = .next (sbc (.zp o) s) := rfl
@[simp] theorem exec_sbcImm (v : Byte) (s : State) :
    exec (.sbcImm v) s = .next (sbc (.imm v) s) := rfl
@[simp] theorem exec_sbcAbs (w : Word) (s : State) :
    exec (.sbcAbs w) s = .next (sbc (.abs w) s) := rfl
@[simp] theorem exec_sbcIndY (o : Byte) (s : State) :
    exec (.sbcIndY o) s = .next (sbc (.indY o) s) := rfl
@[simp] theorem exec_sbcZpInd (o : Byte) (s : State) :
    exec (.sbcZpInd o) s = .next (sbc (.zpInd o) s) := rfl
@[simp] theorem exec_sbcZpX (o : Byte) (s : State) :
    exec (.sbcZpX o) s = .next (sbc (.zpX o) s) := rfl
@[simp] theorem exec_sbcAbsY (w : Word) (s : State) :
    exec (.sbcAbsY w) s = .next (sbc (.absY w) s) := rfl
@[simp] theorem exec_sbcAbsX (w : Word) (s : State) :
    exec (.sbcAbsX w) s = .next (sbc (.absX w) s) := rfl
@[simp] theorem exec_cmpIndX (o : Byte) (s : State) :
    exec (.cmpIndX o) s = .next (cmp (.indX o) s) := rfl
@[simp] theorem exec_cmpZp (o : Byte) (s : State) :
    exec (.cmpZp o) s = .next (cmp (.zp o) s) := rfl
@[simp] theorem exec_cmpImm (v : Byte) (s : State) :
    exec (.cmpImm v) s = .next (cmp (.imm v) s) := rfl
@[simp] theorem exec_cmpAbs (w : Word) (s : State) :
    exec (.cmpAbs w) s = .next (cmp (.abs w) s) := rfl
@[simp] theorem exec_cmpIndY (o : Byte) (s : State) :
    exec (.cmpIndY o) s = .next (cmp (.indY o) s) := rfl
@[simp] theorem exec_cmpZpInd (o : Byte) (s : State) :
    exec (.cmpZpInd o) s = .next (cmp (.zpInd o) s) := rfl
@[simp] theorem exec_cmpZpX (o : Byte) (s : State) :
    exec (.cmpZpX o) s = .next (cmp (.zpX o) s) := rfl
@[simp] theorem exec_cmpAbsY (w : Word) (s : State) :
    exec (.cmpAbsY w) s = .next (cmp (.absY w) s) := rfl
@[simp] theorem exec_cmpAbsX (w : Word) (s : State) :
    exec (.cmpAbsX w) s = .next (cmp (.absX w) s) := rfl
@[simp] theorem exec_cpxImm (v : Byte) (s : State) :
    exec (.cpxImm v) s = .next (cpx (.imm v) s) := rfl
@[simp] theorem exec_cpxZp (o : Byte) (s : State) :
    exec (.cpxZp o) s = .next (cpx (.zp o) s) := rfl
@[simp] theorem exec_cpxAbs (w : Word) (s : State) :
    exec (.cpxAbs w) s = .next (cpx (.abs w) s) := rfl
@[simp] theorem exec_cpyImm (v : Byte) (s : State) :
    exec (.cpyImm v) s = .next (cpy (.imm v) s) := rfl
@[simp] theorem exec_cpyZp (o : Byte) (s : State) :
    exec (.cpyZp o) s = .next (cpy (.zp o) s) := rfl
@[simp] theorem exec_cpyAbs (w : Word) (s : State) :
    exec (.cpyAbs w) s = .next (cpy (.abs w) s) := rfl
@[simp] theorem exec_incA (s : State) : exec .incA s = .next (incAcc s) := rfl
@[simp] theorem exec_incZp (o : Byte) (s : State) :
    exec (.incZp o) s = .next (incMem (.zp o) s) := rfl
@[simp] theorem exec_incAbs (w : Word) (s : State) :
    exec (.incAbs w) s = .next (incMem (.abs w) s) := rfl
@[simp] theorem exec_incZpX (o : Byte) (s : State) :
    exec (.incZpX o) s = .next (incMem (.zpX o) s) := rfl
@[simp] theorem exec_incAbsX (w : Word) (s : State) :
    exec (.incAbsX w) s = .next (incMem (.absX w) s) := rfl
@[simp] theorem exec_decA (s : State) : exec .decA s = .next (decAcc s) := rfl
@[simp] theorem exec_decZp (o : Byte) (s : State) :
    exec (.decZp o) s = .next (decMem (.zp o) s) := rfl
@[simp] theorem exec_decAbs (w : Word) (s : State) :
    exec (.decAbs w) s = .next (decMem (.abs w) s) := rfl
@[simp] theorem exec_decZpX (o : Byte) (s : State) :
    exec (.decZpX o) s = .next (decMem (.zpX o) s) := rfl
@[simp] theorem exec_decAbsX (w : Word) (s : State) :
    exec (.decAbsX w) s = .next (decMem (.absX w) s) := rfl
@[simp] theorem exec_inx (s : State) : exec .inx s = .next (setX (s.x + 1#8) s) := rfl
@[simp] theorem exec_dex (s : State) : exec .dex s = .next (setX (s.x - 1#8) s) := rfl
@[simp] theorem exec_iny (s : State) : exec .iny s = .next (setY (s.y + 1#8) s) := rfl
@[simp] theorem exec_dey (s : State) : exec .dey s = .next (setY (s.y - 1#8) s) := rfl
@[simp] theorem exec_aslZp (o : Byte) (s : State) :
    exec (.aslZp o) s = .next (shiftMem .asl (.zp o) s) := rfl
@[simp] theorem exec_aslA (s : State) : exec .aslA s = .next (shiftAcc .asl s) := rfl
@[simp] theorem exec_aslAbs (w : Word) (s : State) :
    exec (.aslAbs w) s = .next (shiftMem .asl (.abs w) s) := rfl
@[simp] theorem exec_aslZpX (o : Byte) (s : State) :
    exec (.aslZpX o) s = .next (shiftMem .asl (.zpX o) s) := rfl
@[simp] theorem exec_aslAbsX (w : Word) (s : State) :
    exec (.aslAbsX w) s = .next (shiftMem .asl (.absX w) s) := rfl
@[simp] theorem exec_lsrZp (o : Byte) (s : State) :
    exec (.lsrZp o) s = .next (shiftMem .lsr (.zp o) s) := rfl
@[simp] theorem exec_lsrA (s : State) : exec .lsrA s = .next (shiftAcc .lsr s) := rfl
@[simp] theorem exec_lsrAbs (w : Word) (s : State) :
    exec (.lsrAbs w) s = .next (shiftMem .lsr (.abs w) s) := rfl
@[simp] theorem exec_lsrZpX (o : Byte) (s : State) :
    exec (.lsrZpX o) s = .next (shiftMem .lsr (.zpX o) s) := rfl
@[simp] theorem exec_lsrAbsX (w : Word) (s : State) :
    exec (.lsrAbsX w) s = .next (shiftMem .lsr (.absX w) s) := rfl
@[simp] theorem exec_rolZp (o : Byte) (s : State) :
    exec (.rolZp o) s = .next (shiftMem .rol (.zp o) s) := rfl
@[simp] theorem exec_rolA (s : State) : exec .rolA s = .next (shiftAcc .rol s) := rfl
@[simp] theorem exec_rolAbs (w : Word) (s : State) :
    exec (.rolAbs w) s = .next (shiftMem .rol (.abs w) s) := rfl
@[simp] theorem exec_rolZpX (o : Byte) (s : State) :
    exec (.rolZpX o) s = .next (shiftMem .rol (.zpX o) s) := rfl
@[simp] theorem exec_rolAbsX (w : Word) (s : State) :
    exec (.rolAbsX w) s = .next (shiftMem .rol (.absX w) s) := rfl
@[simp] theorem exec_rorZp (o : Byte) (s : State) :
    exec (.rorZp o) s = .next (shiftMem .ror (.zp o) s) := rfl
@[simp] theorem exec_rorA (s : State) : exec .rorA s = .next (shiftAcc .ror s) := rfl
@[simp] theorem exec_rorAbs (w : Word) (s : State) :
    exec (.rorAbs w) s = .next (shiftMem .ror (.abs w) s) := rfl
@[simp] theorem exec_rorZpX (o : Byte) (s : State) :
    exec (.rorZpX o) s = .next (shiftMem .ror (.zpX o) s) := rfl
@[simp] theorem exec_rorAbsX (w : Word) (s : State) :
    exec (.rorAbsX w) s = .next (shiftMem .ror (.absX w) s) := rfl
@[simp] theorem exec_andIndX (o : Byte) (s : State) :
    exec (.andIndX o) s = .next (andA (.indX o) s) := rfl
@[simp] theorem exec_andZp (o : Byte) (s : State) :
    exec (.andZp o) s = .next (andA (.zp o) s) := rfl
@[simp] theorem exec_andImm (v : Byte) (s : State) :
    exec (.andImm v) s = .next (andA (.imm v) s) := rfl
@[simp] theorem exec_andAbs (w : Word) (s : State) :
    exec (.andAbs w) s = .next (andA (.abs w) s) := rfl
@[simp] theorem exec_andIndY (o : Byte) (s : State) :
    exec (.andIndY o) s = .next (andA (.indY o) s) := rfl
@[simp] theorem exec_andZpInd (o : Byte) (s : State) :
    exec (.andZpInd o) s = .next (andA (.zpInd o) s) := rfl
@[simp] theorem exec_andZpX (o : Byte) (s : State) :
    exec (.andZpX o) s = .next (andA (.zpX o) s) := rfl
@[simp] theorem exec_andAbsY (w : Word) (s : State) :
    exec (.andAbsY w) s = .next (andA (.absY w) s) := rfl
@[simp] theorem exec_andAbsX (w : Word) (s : State) :
    exec (.andAbsX w) s = .next (andA (.absX w) s) := rfl
@[simp] theorem exec_oraIndX (o : Byte) (s : State) :
    exec (.oraIndX o) s = .next (oraA (.indX o) s) := rfl
@[simp] theorem exec_oraZp (o : Byte) (s : State) :
    exec (.oraZp o) s = .next (oraA (.zp o) s) := rfl
@[simp] theorem exec_oraImm (v : Byte) (s : State) :
    exec (.oraImm v) s = .next (oraA (.imm v) s) := rfl
@[simp] theorem exec_oraAbs (w : Word) (s : State) :
    exec (.oraAbs w) s = .next (oraA (.abs w) s) := rfl
@[simp] theorem exec_oraIndY (o : Byte) (s : State) :
    exec (.oraIndY o) s = .next (oraA (.indY o) s) := rfl
@[simp] theorem exec_oraZpInd (o : Byte) (s : State) :
    exec (.oraZpInd o) s = .next (oraA (.zpInd o) s) := rfl
@[simp] theorem exec_oraZpX (o : Byte) (s : State) :
    exec (.oraZpX o) s = .next (oraA (.zpX o) s) := rfl
@[simp] theorem exec_oraAbsY (w : Word) (s : State) :
    exec (.oraAbsY w) s = .next (oraA (.absY w) s) := rfl
@[simp] theorem exec_oraAbsX (w : Word) (s : State) :
    exec (.oraAbsX w) s = .next (oraA (.absX w) s) := rfl
@[simp] theorem exec_eorIndX (o : Byte) (s : State) :
    exec (.eorIndX o) s = .next (eorA (.indX o) s) := rfl
@[simp] theorem exec_eorZp (o : Byte) (s : State) :
    exec (.eorZp o) s = .next (eorA (.zp o) s) := rfl
@[simp] theorem exec_eorImm (v : Byte) (s : State) :
    exec (.eorImm v) s = .next (eorA (.imm v) s) := rfl
@[simp] theorem exec_eorAbs (w : Word) (s : State) :
    exec (.eorAbs w) s = .next (eorA (.abs w) s) := rfl
@[simp] theorem exec_eorIndY (o : Byte) (s : State) :
    exec (.eorIndY o) s = .next (eorA (.indY o) s) := rfl
@[simp] theorem exec_eorZpInd (o : Byte) (s : State) :
    exec (.eorZpInd o) s = .next (eorA (.zpInd o) s) := rfl
@[simp] theorem exec_eorZpX (o : Byte) (s : State) :
    exec (.eorZpX o) s = .next (eorA (.zpX o) s) := rfl
@[simp] theorem exec_eorAbsY (w : Word) (s : State) :
    exec (.eorAbsY w) s = .next (eorA (.absY w) s) := rfl
@[simp] theorem exec_eorAbsX (w : Word) (s : State) :
    exec (.eorAbsX w) s = .next (eorA (.absX w) s) := rfl
@[simp] theorem exec_bitZp (o : Byte) (s : State) :
    exec (.bitZp o) s = .next (bitTest (.zp o) s) := rfl
@[simp] theorem exec_bitAbs (w : Word) (s : State) :
    exec (.bitAbs w) s = .next (bitTest (.abs w) s) := rfl
@[simp] theorem exec_bitZpX (o : Byte) (s : State) :
    exec (.bitZpX o) s = .next (bitTest (.zpX o) s) := rfl
@[simp] theorem exec_bitAbsX (w : Word) (s : State) :
    exec (.bitAbsX w) s = .next (bitTest (.absX w) s) := rfl
@[simp] theorem exec_bitImm (v : Byte) (s : State) :
    exec (.bitImm v) s = .next (bitTest (.imm v) s) := rfl
@[simp] theorem exec_tsbZp (o : Byte) (s : State) :
    exec (.tsbZp o) s = .next (tsb (.zp o) s) := rfl
@[simp] theorem exec_tsbAbs (w : Word) (s : State) :
    exec (.tsbAbs w) s = .next (tsb (.abs w) s) := rfl
@[simp] theorem exec_trbZp (o : Byte) (s : State) :
    exec (.trbZp o) s = .next (trb (.zp o) s) := rfl
@[simp] theorem exec_trbAbs (w : Word) (s : State) :
    exec (.trbAbs w) s = .next (trb (.abs w) s) := rfl
@[simp] theorem exec_jmpAbs (w : Word) (s : State) :
    exec (.jmpAbs w) s = .next (jmp (.abs w) s) := rfl
@[simp] theorem exec_jmpInd (w : Word) (s : State) :
    exec (.jmpInd w) s = .next (jmp (.ind w) s) := rfl
@[simp] theorem exec_jmpAbsIndX (w : Word) (s : State) :
    exec (.jmpAbsIndX w) s = .next (jmp (.absIndX w) s) := rfl
@[simp] theorem exec_jsr (w : Word) (s : State) :
    exec (.jsr w) s = .next (jsr (.abs w) s) := rfl
@[simp] theorem exec_rts (s : State) : exec .rts s = .next (rts s) := rfl
@[simp] theorem exec_rti (s : State) : exec .rti s = .next (s.returnFromException) := rfl
@[simp] theorem exec_brk (s : State) : exec .brk s = .next (brk s) := rfl
@[simp] theorem exec_bcc (off : Byte) (s : State) :
    exec (.bcc off) s = .next (branchIf .c false off s) := rfl
@[simp] theorem exec_bcs (off : Byte) (s : State) :
    exec (.bcs off) s = .next (branchIf .c true off s) := rfl
@[simp] theorem exec_beq (off : Byte) (s : State) :
    exec (.beq off) s = .next (branchIf .z true off s) := rfl
@[simp] theorem exec_bne (off : Byte) (s : State) :
    exec (.bne off) s = .next (branchIf .z false off s) := rfl
@[simp] theorem exec_bmi (off : Byte) (s : State) :
    exec (.bmi off) s = .next (branchIf .n true off s) := rfl
@[simp] theorem exec_bpl (off : Byte) (s : State) :
    exec (.bpl off) s = .next (branchIf .n false off s) := rfl
@[simp] theorem exec_bvc (off : Byte) (s : State) :
    exec (.bvc off) s = .next (branchIf .v false off s) := rfl
@[simp] theorem exec_bvs (off : Byte) (s : State) :
    exec (.bvs off) s = .next (branchIf .v true off s) := rfl
@[simp] theorem exec_bra (off : Byte) (s : State) :
    exec (.bra off) s = .next (branchAlways off s) := rfl
@[simp] theorem exec_clc (s : State) : exec .clc s = .next (s.setFlag .c false) := rfl
@[simp] theorem exec_sec (s : State) : exec .sec s = .next (s.setFlag .c true) := rfl
@[simp] theorem exec_cli (s : State) : exec .cli s = .next (s.setFlag .i false) := rfl
@[simp] theorem exec_sei (s : State) : exec .sei s = .next (s.setFlag .i true) := rfl
@[simp] theorem exec_cld (s : State) : exec .cld s = .next (s.setFlag .d false) := rfl
@[simp] theorem exec_sed (s : State) : exec .sed s = .next (s.setFlag .d true) := rfl
@[simp] theorem exec_clv (s : State) : exec .clv s = .next (s.setFlag .v false) := rfl
@[simp] theorem exec_nop (s : State) : exec .nop s = .next s := rfl
@[simp] theorem exec_rmb0 (o : Byte) (s : State) :
    exec (.rmb0 o) s = .next (rmb 0 o s) := rfl
@[simp] theorem exec_rmb1 (o : Byte) (s : State) :
    exec (.rmb1 o) s = .next (rmb 1 o s) := rfl
@[simp] theorem exec_rmb2 (o : Byte) (s : State) :
    exec (.rmb2 o) s = .next (rmb 2 o s) := rfl
@[simp] theorem exec_rmb3 (o : Byte) (s : State) :
    exec (.rmb3 o) s = .next (rmb 3 o s) := rfl
@[simp] theorem exec_rmb4 (o : Byte) (s : State) :
    exec (.rmb4 o) s = .next (rmb 4 o s) := rfl
@[simp] theorem exec_rmb5 (o : Byte) (s : State) :
    exec (.rmb5 o) s = .next (rmb 5 o s) := rfl
@[simp] theorem exec_rmb6 (o : Byte) (s : State) :
    exec (.rmb6 o) s = .next (rmb 6 o s) := rfl
@[simp] theorem exec_rmb7 (o : Byte) (s : State) :
    exec (.rmb7 o) s = .next (rmb 7 o s) := rfl
@[simp] theorem exec_smb0 (o : Byte) (s : State) :
    exec (.smb0 o) s = .next (smb 0 o s) := rfl
@[simp] theorem exec_smb1 (o : Byte) (s : State) :
    exec (.smb1 o) s = .next (smb 1 o s) := rfl
@[simp] theorem exec_smb2 (o : Byte) (s : State) :
    exec (.smb2 o) s = .next (smb 2 o s) := rfl
@[simp] theorem exec_smb3 (o : Byte) (s : State) :
    exec (.smb3 o) s = .next (smb 3 o s) := rfl
@[simp] theorem exec_smb4 (o : Byte) (s : State) :
    exec (.smb4 o) s = .next (smb 4 o s) := rfl
@[simp] theorem exec_smb5 (o : Byte) (s : State) :
    exec (.smb5 o) s = .next (smb 5 o s) := rfl
@[simp] theorem exec_smb6 (o : Byte) (s : State) :
    exec (.smb6 o) s = .next (smb 6 o s) := rfl
@[simp] theorem exec_smb7 (o : Byte) (s : State) :
    exec (.smb7 o) s = .next (smb 7 o s) := rfl
@[simp] theorem exec_bbr0 (zp : Byte) (off : Byte) (s : State) :
    exec (.bbr0 zp off) s = .next (branchOnBit 0 false zp off s) := rfl
@[simp] theorem exec_bbr1 (zp : Byte) (off : Byte) (s : State) :
    exec (.bbr1 zp off) s = .next (branchOnBit 1 false zp off s) := rfl
@[simp] theorem exec_bbr2 (zp : Byte) (off : Byte) (s : State) :
    exec (.bbr2 zp off) s = .next (branchOnBit 2 false zp off s) := rfl
@[simp] theorem exec_bbr3 (zp : Byte) (off : Byte) (s : State) :
    exec (.bbr3 zp off) s = .next (branchOnBit 3 false zp off s) := rfl
@[simp] theorem exec_bbr4 (zp : Byte) (off : Byte) (s : State) :
    exec (.bbr4 zp off) s = .next (branchOnBit 4 false zp off s) := rfl
@[simp] theorem exec_bbr5 (zp : Byte) (off : Byte) (s : State) :
    exec (.bbr5 zp off) s = .next (branchOnBit 5 false zp off s) := rfl
@[simp] theorem exec_bbr6 (zp : Byte) (off : Byte) (s : State) :
    exec (.bbr6 zp off) s = .next (branchOnBit 6 false zp off s) := rfl
@[simp] theorem exec_bbr7 (zp : Byte) (off : Byte) (s : State) :
    exec (.bbr7 zp off) s = .next (branchOnBit 7 false zp off s) := rfl
@[simp] theorem exec_bbs0 (zp : Byte) (off : Byte) (s : State) :
    exec (.bbs0 zp off) s = .next (branchOnBit 0 true zp off s) := rfl
@[simp] theorem exec_bbs1 (zp : Byte) (off : Byte) (s : State) :
    exec (.bbs1 zp off) s = .next (branchOnBit 1 true zp off s) := rfl
@[simp] theorem exec_bbs2 (zp : Byte) (off : Byte) (s : State) :
    exec (.bbs2 zp off) s = .next (branchOnBit 2 true zp off s) := rfl
@[simp] theorem exec_bbs3 (zp : Byte) (off : Byte) (s : State) :
    exec (.bbs3 zp off) s = .next (branchOnBit 3 true zp off s) := rfl
@[simp] theorem exec_bbs4 (zp : Byte) (off : Byte) (s : State) :
    exec (.bbs4 zp off) s = .next (branchOnBit 4 true zp off s) := rfl
@[simp] theorem exec_bbs5 (zp : Byte) (off : Byte) (s : State) :
    exec (.bbs5 zp off) s = .next (branchOnBit 5 true zp off s) := rfl
@[simp] theorem exec_bbs6 (zp : Byte) (off : Byte) (s : State) :
    exec (.bbs6 zp off) s = .next (branchOnBit 6 true zp off s) := rfl
@[simp] theorem exec_bbs7 (zp : Byte) (off : Byte) (s : State) :
    exec (.bbs7 zp off) s = .next (branchOnBit 7 true zp off s) := rfl
@[simp] theorem exec_nop02 (v : Byte) (s : State) :
    exec (.nop02 v) s = .next (discardOperand (.imm v) s) := rfl
@[simp] theorem exec_nop22 (v : Byte) (s : State) :
    exec (.nop22 v) s = .next (discardOperand (.imm v) s) := rfl
@[simp] theorem exec_nop42 (v : Byte) (s : State) :
    exec (.nop42 v) s = .next (discardOperand (.imm v) s) := rfl
@[simp] theorem exec_nop44 (o : Byte) (s : State) :
    exec (.nop44 o) s = .next (discardOperand (.zp o) s) := rfl
@[simp] theorem exec_nop54 (o : Byte) (s : State) :
    exec (.nop54 o) s = .next (discardOperand (.zpX o) s) := rfl
@[simp] theorem exec_nop5C (w : Word) (s : State) :
    exec (.nop5C w) s = .next (discardOperand (.abs w) s) := rfl
@[simp] theorem exec_nop62 (v : Byte) (s : State) :
    exec (.nop62 v) s = .next (discardOperand (.imm v) s) := rfl
@[simp] theorem exec_nop82 (v : Byte) (s : State) :
    exec (.nop82 v) s = .next (discardOperand (.imm v) s) := rfl
@[simp] theorem exec_nopC2 (v : Byte) (s : State) :
    exec (.nopC2 v) s = .next (discardOperand (.imm v) s) := rfl
@[simp] theorem exec_nopD4 (o : Byte) (s : State) :
    exec (.nopD4 o) s = .next (discardOperand (.zpX o) s) := rfl
@[simp] theorem exec_nopDC (w : Word) (s : State) :
    exec (.nopDC w) s = .next (discardOperand (.abs w) s) := rfl
@[simp] theorem exec_nopE2 (v : Byte) (s : State) :
    exec (.nopE2 v) s = .next (discardOperand (.imm v) s) := rfl
@[simp] theorem exec_nopF4 (o : Byte) (s : State) :
    exec (.nopF4 o) s = .next (discardOperand (.zpX o) s) := rfl
@[simp] theorem exec_nopFC (w : Word) (s : State) :
    exec (.nopFC w) s = .next (discardOperand (.abs w) s) := rfl
@[simp] theorem exec_wai (s : State) : exec .wai s = .next ({ s with waiting := true }) := rfl
@[simp] theorem exec_stp (s : State) : exec .stp s = .next ({ s with halted := true }) := rfl
@[simp] theorem exec_nop03 (s : State) : exec .nop03 s = .next s := rfl
@[simp] theorem exec_nop0B (s : State) : exec .nop0B s = .next s := rfl
@[simp] theorem exec_nop13 (s : State) : exec .nop13 s = .next s := rfl
@[simp] theorem exec_nop1B (s : State) : exec .nop1B s = .next s := rfl
@[simp] theorem exec_nop23 (s : State) : exec .nop23 s = .next s := rfl
@[simp] theorem exec_nop2B (s : State) : exec .nop2B s = .next s := rfl
@[simp] theorem exec_nop33 (s : State) : exec .nop33 s = .next s := rfl
@[simp] theorem exec_nop3B (s : State) : exec .nop3B s = .next s := rfl
@[simp] theorem exec_nop43 (s : State) : exec .nop43 s = .next s := rfl
@[simp] theorem exec_nop4B (s : State) : exec .nop4B s = .next s := rfl
@[simp] theorem exec_nop53 (s : State) : exec .nop53 s = .next s := rfl
@[simp] theorem exec_nop5B (s : State) : exec .nop5B s = .next s := rfl
@[simp] theorem exec_nop63 (s : State) : exec .nop63 s = .next s := rfl
@[simp] theorem exec_nop6B (s : State) : exec .nop6B s = .next s := rfl
@[simp] theorem exec_nop73 (s : State) : exec .nop73 s = .next s := rfl
@[simp] theorem exec_nop7B (s : State) : exec .nop7B s = .next s := rfl
@[simp] theorem exec_nop83 (s : State) : exec .nop83 s = .next s := rfl
@[simp] theorem exec_nop8B (s : State) : exec .nop8B s = .next s := rfl
@[simp] theorem exec_nop93 (s : State) : exec .nop93 s = .next s := rfl
@[simp] theorem exec_nop9B (s : State) : exec .nop9B s = .next s := rfl
@[simp] theorem exec_nopA3 (s : State) : exec .nopA3 s = .next s := rfl
@[simp] theorem exec_nopAB (s : State) : exec .nopAB s = .next s := rfl
@[simp] theorem exec_nopB3 (s : State) : exec .nopB3 s = .next s := rfl
@[simp] theorem exec_nopBB (s : State) : exec .nopBB s = .next s := rfl
@[simp] theorem exec_nopC3 (s : State) : exec .nopC3 s = .next s := rfl
@[simp] theorem exec_nopD3 (s : State) : exec .nopD3 s = .next s := rfl
@[simp] theorem exec_nopE3 (s : State) : exec .nopE3 s = .next s := rfl
@[simp] theorem exec_nopEB (s : State) : exec .nopEB s = .next s := rfl
@[simp] theorem exec_nopF3 (s : State) : exec .nopF3 s = .next s := rfl
@[simp] theorem exec_nopFB (s : State) : exec .nopFB s = .next s := rfl

end Sys2Proof.Laws
end

