-- ==== Sys2Proof/Laws/Memory.lean ====
section
/-! SUPPORT. The laws of memory and of the Bus: what a read gives after a write, that a write keeps the canonical form,
and what an access does to what the Bus will answer. -/

namespace Sys2Proof.Laws

open Sys2Proof.Machine

/-- A write leaves every other address alone, in any list. -/
theorem read_write_ne (m : List Host.Cell) (a c : Nat) (v : Byte) (h : c ≠ a) :
    Memory.read (Memory.write m a v) c = Memory.read m c := by
  induction m with
  | nil => simp only [Memory.write]; split <;> simp [Memory.read, Ne.symm h]
  | cons e rest ih =>
    obtain ⟨b, u⟩ := e
    simp only [Memory.write]
    split
    · split <;> simp [Memory.read, Ne.symm h]
    · split
      · next hab => subst hab; split <;> simp [Memory.read, Ne.symm h]
      · simp [Memory.read, ih]

/-- An address below every entry of a canonical list is unlisted. -/
theorem read_below (m : List Host.Cell) (low a : Nat) (h : Memory.wfFrom low m = true) (ha : a < low) :
    Memory.read m a = Config.unlistedByte := by
  induction m generalizing low with
  | nil => rfl
  | cons e rest ih =>
    obtain ⟨b, u⟩ := e
    simp only [Memory.wfFrom, Bool.and_eq_true, decide_eq_true_eq] at h
    have hb : b ≠ a := by omega
    simp only [Memory.read, if_neg hb]
    exact ih (b + 1) h.2 (by omega)

/-- A list canonical from `low` is canonical from any lower bound. -/
theorem wfFrom_mono (m : List Host.Cell) (low low' : Nat) (h : Memory.wfFrom low m = true) (hl : low' ≤ low) :
    Memory.wfFrom low' m = true := by
  cases m with
  | nil => rfl
  | cons e rest =>
    obtain ⟨b, u⟩ := e
    simp only [Memory.wfFrom, Bool.and_eq_true, decide_eq_true_eq] at h ⊢
    exact ⟨⟨⟨by omega, h.1.1.2⟩, h.1.2⟩, h.2⟩

/-- In a canonical list a read after a write of the same address gives the byte written. -/
theorem read_write_same (m : List Host.Cell) (low a : Nat) (v : Byte) (h : Memory.wfFrom low m = true) :
    Memory.read (Memory.write m a v) a = v := by
  induction m generalizing low with
  | nil => simp only [Memory.write]; split <;> simp_all [Memory.read]
  | cons e rest ih =>
    obtain ⟨b, u⟩ := e
    have h' := h
    simp only [Memory.wfFrom, Bool.and_eq_true, decide_eq_true_eq] at h
    simp only [Memory.write]
    split
    · next hab =>
      split
      · next hv =>
        rw [hv]
        have hb : b ≠ a := by omega
        simp only [Memory.read, if_neg hb]
        exact read_below rest (b + 1) a h.2 (by omega)
      · simp [Memory.read]
    · split
      · next hab =>
        subst hab
        split
        · next hv => rw [hv]; exact read_below rest (a + 1) a h.2 (by omega)
        · simp [Memory.read]
      · next hne =>
        have hb : b ≠ a := fun e => hne e.symm
        simp only [Memory.read, if_neg hb]
        exact ih (b + 1) h.2

/-- A write at or above the bound keeps the canonical form. -/
theorem wfFrom_write (m : List Host.Cell) (low a : Nat) (v : Byte) (h : Memory.wfFrom low m = true)
    (hl : low ≤ a) (ha : a < 65536) : Memory.wfFrom low (Memory.write m a v) = true := by
  induction m generalizing low with
  | nil => simp only [Memory.write]; split <;> simp_all [Memory.wfFrom]
  | cons e rest ih =>
    obtain ⟨b, u⟩ := e
    have h' := h
    simp only [Memory.wfFrom, Bool.and_eq_true, decide_eq_true_eq] at h
    simp only [Memory.write]
    split
    · split
      · exact h'
      · simp only [Memory.wfFrom, Bool.and_eq_true, decide_eq_true_eq]
        exact ⟨⟨⟨hl, ha⟩, by assumption⟩, ⟨⟨by omega, h.1.1.2⟩, h.1.2⟩, h.2⟩
    · split
      · next hab =>
        subst hab
        split
        · exact wfFrom_mono rest (a + 1) low h.2 (by omega)
        · simp only [Memory.wfFrom, Bool.and_eq_true, decide_eq_true_eq]
          exact ⟨⟨⟨hl, ha⟩, by assumption⟩, h.2⟩
      · simp only [Memory.wfFrom, Bool.and_eq_true, decide_eq_true_eq]
        exact ⟨⟨⟨h.1.1.1, h.1.1.2⟩, h.1.2⟩, ih (b + 1) h.2 (by omega)⟩

/-- Every memory write the machine makes keeps the canonical form. -/
theorem wf_write (m : List Host.Cell) (addr : Word) (v : Byte) (h : Memory.wf m = true) :
    Memory.wf (Memory.write m addr.toNat v) = true :=
  wfFrom_write m 0 addr.toNat v h (Nat.zero_le _) addr.isLt

/-- The memory of the reset state is canonical. -/
theorem wf_reset : Memory.wf State.reset.mem = true := rfl

/-- Two different addresses are different keys. -/
theorem toNat_ne_of_ne {a b : Word} (h : a ≠ b) : a.toNat ≠ b.toNat :=
  fun e => h (BitVec.eq_of_toNat_eq e)

/-- A write to RAM lands. -/
theorem busWrite_ram {map : List Region} {addr : Word} (m : List Host.Cell) (v : Byte) (h : kindIn map addr = .ram) :
    busWrite map m addr v = Memory.write m addr.toNat v := by simp [busWrite, h]

/-- A write to anything but RAM changes no memory. -/
theorem busWrite_not_ram {map : List Region} {addr : Word} (m : List Host.Cell) (v : Byte)
    (h : kindIn map addr ≠ .ram) : busWrite map m addr v = m := by
  unfold busWrite; split <;> simp_all

/-- On the default platform every write lands. -/
@[simp] theorem busWrite_default (m : List Host.Cell) (addr : Word) (v : Byte) :
    busWrite [] m addr v = Memory.write m addr.toNat v := rfl

/-- A write to the Bus leaves the memory at every other address alone. -/
theorem read_busWrite_ne (map : List Region) (m : List Host.Cell) {addr b : Word} (v : Byte) (h : b ≠ addr) :
    Memory.read (busWrite map m addr v) b.toNat = Memory.read m b.toNat := by
  unfold busWrite
  split
  · exact read_write_ne m _ _ v (toNat_ne_of_ne h)
  · rfl
  · rfl

/-- A write to the Bus leaves the memory alone where there is no RAM. -/
theorem read_busWrite_not_ram (map : List Region) (m : List Host.Cell) (addr : Word) {b : Word} (v : Byte)
    (h : kindIn map b ≠ .ram) : Memory.read (busWrite map m addr v) b.toNat = Memory.read m b.toNat := by
  by_cases hb : b = addr
  · subst hb; rw [busWrite_not_ram m v h]
  · exact read_busWrite_ne map m v hb

/-- A write to the Bus keeps the canonical form. -/
theorem wf_busWrite (map : List Region) (m : List Host.Cell) (addr : Word) (v : Byte) (h : Memory.wf m = true) :
    Memory.wf (busWrite map m addr v) = true := by
  unfold busWrite
  split
  · exact wf_write m addr v h
  · exact h
  · exact h

/-- What stands at an address follows from the map alone. -/
theorem kindAt_congr {s t : State} (h : t.map = s.map) (addr : Word) : t.kindAt addr = s.kindAt addr := by
  unfold State.kindAt; rw [h]

/-- What the Bus answers follows from the map, the answers, the number of device reads and the memory there. -/
theorem peek_congr {s t : State} {addr : Word} (hm : t.map = s.map) (ha : t.answers = s.answers)
    (hd : t.deviceReads = s.deviceReads) (hr : Memory.read t.mem addr.toNat = Memory.read s.mem addr.toNat) :
    t.peek addr = s.peek addr := by
  unfold State.peek State.deviceAnswer
  rw [kindAt_congr hm, ha, hd, hr]

/-- Away from devices, what the Bus answers follows from the map and the memory there. -/
theorem peek_congr_memory {s t : State} {addr : Word} (hk : s.kindAt addr ≠ .device) (hm : t.map = s.map)
    (hr : Memory.read t.mem addr.toNat = Memory.read s.mem addr.toNat) : t.peek addr = s.peek addr := by
  unfold State.peek
  rw [kindAt_congr hm]
  cases h : s.kindAt addr
  · exact hr
  · exact hr
  · exact absurd h hk

/-- Away from devices, a read answers what memory holds. -/
theorem peek_memory {s : State} {addr : Word} (hk : s.kindAt addr ≠ .device) :
    s.peek addr = Memory.read s.mem addr.toNat := by
  unfold State.peek
  cases h : s.kindAt addr
  · rfl
  · rfl
  · exact absurd h hk

/-- A device answers what the platform says. -/
theorem peek_device {s : State} {addr : Word} (hk : s.kindAt addr = .device) : s.peek addr = s.deviceAnswer addr := by
  unfold State.peek; rw [hk]

/-- What stands at an address after a read. -/
@[simp] theorem noteRead_kindAt (s : State) (a b : Word) : (s.noteRead a).kindAt b = s.kindAt b := rfl

/-- What stands at an address after a write. -/
@[simp] theorem memWrite_kindAt (s : State) (a b : Word) (v : Byte) : (s.memWrite a v).kindAt b = s.kindAt b := rfl

/-- A read counts as a device read exactly at a device. -/
theorem noteRead_deviceReads (s : State) (addr : Word) :
    (s.noteRead addr).deviceReads = s.deviceReads + (if s.kindAt addr = .device then 1 else 0) := by
  by_cases h : kindIn s.map addr = .device <;>
    simp [State.deviceReads, State.noteRead, List.countP_append, isDeviceRead, State.kindAt, h]

/-- A write is no device read. -/
@[simp] theorem memWrite_deviceReads (s : State) (addr : Word) (v : Byte) :
    (s.memWrite addr v).deviceReads = s.deviceReads := by
  simp [State.deviceReads, State.memWrite, List.countP_append, isDeviceRead]

/-- A read changes no answer but a device's, and only by reading a device. -/
theorem peek_noteRead (s : State) (a b : Word) (h : s.kindAt a ≠ .device ∨ s.kindAt b ≠ .device) :
    (s.noteRead a).peek b = s.peek b := by
  rcases h with h | h
  · exact peek_congr rfl rfl (by simp [noteRead_deviceReads, h]) rfl
  · exact peek_congr_memory h rfl rfl

/-- A byte looked at after a write elsewhere. -/
theorem peek_memWrite_ne (s : State) (a b : Word) (v : Byte) (h : b ≠ a) :
    (s.memWrite a v).peek b = s.peek b :=
  peek_congr rfl rfl (memWrite_deviceReads s a v) (read_busWrite_ne s.map s.mem v h)

/-- A byte of RAM looked at after a write of it. -/
theorem peek_memWrite_same (s : State) (a : Word) (v : Byte) (h : Memory.wf s.mem = true) (hk : s.kindAt a = .ram) :
    (s.memWrite a v).peek a = v := by
  rw [peek_memory (by simp [hk]), State.memWrite, busWrite_ram s.mem v hk]
  exact read_write_same s.mem 0 a.toNat v h

end Sys2Proof.Laws
end

