-- ==== Sys2Proof/Laws/Operands.lean ====
section
/-! SUPPORT. What each shared operand operation does, said once: a resolver only adds its pointer reads to the Bus; a
load, a store and a read-modify-write add their accesses and, if they store, write one byte of memory. -/

namespace Sys2Proof.Laws

open Sys2Proof.Machine

/-- Reads made one after the other: the first, then the others. -/
@[simp] theorem readsOf_cons (addr : Word) (rest : List Word) (s : State) :
    readsOf (addr :: rest) s = .read addr (s.peek addr) :: readsOf rest (s.noteRead addr) := rfl

/-- No address, no read. -/
@[simp] theorem readsOf_nil (s : State) : readsOf [] s = [] := rfl

/-- A resolver changes nothing but the list of Bus accesses, to which it adds its pointer reads (R160). -/
theorem resolve_st (m : Mode) (s : State) : (resolve m s).st = afterPointers m s := by
  cases m <;>
    simp [resolve, resolvedAt, afterPointers, pointerReads, pointerAddrs, State.readWordAt, State.read16,
      State.noteRead, List.append_assoc]

/-- The operand byte of Immediate mode is the instruction's. -/
@[simp] theorem operandByte_imm (v : Byte) (s : State) : operandByte (.imm v) s = v := rfl

/-- The meaning of Immediate mode makes no access. -/
@[simp] theorem operandReads_imm (v : Byte) (s : State) : operandReads (.imm v) s = [] := rfl

/-- The operand byte of a mode that has an address. -/
theorem operandByte_eq (m : Mode) (s : State) (hm : ∀ v, m ≠ .imm v) :
    operandByte m s = (afterPointers m s).peek (effectiveAddr m s) := by
  cases m with
  | imm v => exact absurd rfl (hm v)
  | _ => rfl

/-- The accesses of an operand of a mode that has an address. -/
theorem operandReads_eq (m : Mode) (s : State) (hm : ∀ v, m ≠ .imm v) :
    operandReads m s = pointerReads m s ++ [.read (effectiveAddr m s) (operandByte m s)] := by
  cases m with
  | imm v => exact absurd rfl (hm v)
  | _ => rfl

/-- What a load gives: the operand byte, the page-cross signal, and a state that differs in the Bus accesses
only. -/
theorem loadOperand_eq (m : Mode) (s : State) :
    loadOperand m s =
      { val := operandByte m s
        crossed := (resolve m s).crossed
        st := { s with bus := s.bus ++ operandReads m s } } := by
  cases m <;>
    simp [loadOperand, operandByte, operandReads, resolve_st, State.memRead, State.noteRead, effectiveAddr,
      List.append_assoc, afterPointers]
  simp [resolve, resolvedAt]

/-- What a store gives (R200). -/
theorem storeByte_eq (m : Mode) (v : Byte) (s : State) :
    storeByte m v s = { s with mem := storedMem m v s, bus := s.bus ++ storeAccesses m v s } := by
  simp [storeByte, resolve_st, afterPointers, State.memWrite, storedMem, storeAccesses, effectiveAddr,
    List.append_assoc]

/-- What a read-modify-write through a mode with an address gives (R284). -/
theorem modifyByte_eq (m : Mode) (f : Byte → Byte) (s : State) (hm : ∀ v, m ≠ .imm v) :
    modifyByte m f s =
      { old := operandByte m s
        crossed := (resolve m s).crossed
        st := { s with
          mem := storedMem m (f (operandByte m s)) s
          bus := s.bus ++ modifyAccesses m (f (operandByte m s)) s } } := by
  simp only [modifyByte, State.memRead, resolve_st, modifyAccesses, operandReads_eq m s hm, operandByte_eq m s hm,
    effectiveAddr, storedMem, State.memWrite, State.noteRead, List.append_assoc]
  simp [afterPointers, List.append_assoc]

/-- The bonus charged for a page cross. -/
theorem chargeCross_eq (s : State) (m : Mode) (t : State) :
    t.chargeCross (resolve m s).crossed = { t with cycles := t.cycles + crossBonus m s } := by
  unfold crossBonus State.chargeCross
  split <;> rfl

/-- The page-cross bonus is at most one cycle (R177). -/
theorem crossBonus_le (m : Mode) (s : State) : crossBonus m s ≤ 1 := by
  unfold crossBonus; split <;> decide

/-- A taken branch costs at most two cycles (R330). -/
theorem takenCost_le (base target : Word) : takenCost base target ≤ 2 := by
  unfold takenCost; split <;> decide

/-- Two lists of accesses, one after the other. -/
theorem applyAccesses_append (a b : List Access) (s : State) :
    applyAccesses (a ++ b) s = applyAccesses b (applyAccesses a s) := by
  induction a generalizing s with
  | nil => rfl
  | cons x xs ih => cases x <;> exact ih _

/-- The reads of two lists of accesses, one after the other. -/
theorem readsAnswered_append (a b : List Access) (s : State) :
    readsAnswered (a ++ b) s ↔ readsAnswered a s ∧ readsAnswered b (applyAccesses a s) := by
  induction a generalizing s with
  | nil => simp [readsAnswered, applyAccesses]
  | cons x xs ih => cases x <;> simp [readsAnswered, applyAccesses, ih, and_assoc]

/-- Reads made one after the other are answered and add themselves to the Bus. -/
theorem readsOf_spec (l : List Word) (s : State) :
    readsAnswered (readsOf l s) s ∧ applyAccesses (readsOf l s) s = { s with bus := s.bus ++ readsOf l s } ∧
      (readsOf l s).length = l.length := by
  induction l generalizing s with
  | nil => simp [readsAnswered, applyAccesses]
  | cons addr rest ih =>
    obtain ⟨h1, h2, h3⟩ := ih (s.noteRead addr)
    exact ⟨⟨rfl, h1⟩, by simp [applyAccesses, h2, List.append_assoc], by simp [h3]⟩

/-- The pointer reads of a mode are answered, change nothing but the list of accesses, and are at most two. -/
theorem pointerReads_spec (m : Mode) (s : State) :
    readsAnswered (pointerReads m s) s ∧ applyAccesses (pointerReads m s) s = afterPointers m s ∧
      (pointerReads m s).length ≤ 2 := by
  obtain ⟨h1, h2, h3⟩ := readsOf_spec (pointerAddrs m s) s
  exact ⟨h1, h2, h3 ▸ by cases m <;> simp [pointerAddrs]⟩

/-- So are the reads of an operand, of which there are at most three. -/
theorem operandReads_spec (m : Mode) (s : State) :
    readsAnswered (operandReads m s) s ∧
      applyAccesses (operandReads m s) s = { s with bus := s.bus ++ operandReads m s } ∧
      (operandReads m s).length ≤ 3 := by
  obtain ⟨h1, h2, h3⟩ := pointerReads_spec m s
  by_cases hm : ∃ v, m = .imm v
  · obtain ⟨v, rfl⟩ := hm
    simp [operandReads, readsAnswered, applyAccesses]
  · have hm' : ∀ v, m ≠ .imm v := fun v e => hm ⟨v, e⟩
    rw [operandReads_eq m s hm', readsAnswered_append, applyAccesses_append, h2, operandByte_eq m s hm']
    refine ⟨⟨h1, rfl, trivial⟩, ?_, ?_⟩
    · simp [applyAccesses, State.noteRead, afterPointers, List.append_assoc]
    · simpa using Nat.lt_succ_of_le h3

end Sys2Proof.Laws
end

