-- ==== Sys2Proof/Laws/Ops.lean ====
section
/-! SUPPORT. What taking an exception, returning from one and resetting do, each said once as an equation of
states. -/

namespace Sys2Proof.Laws

open Sys2Proof.Machine

/-- Two stack addresses are equal exactly when the stack pointers are. -/
theorem stackAddr_inj {a b : Byte} : stackAddr a = stackAddr b ↔ a = b := by
  constructor
  · intro h; have := congrArg lo h; simpa [stackAddr] using this
  · rintro rfl; rfl

/-- A stack address lies in page 1. -/
theorem hi_stackAddr (a : Byte) : hi (stackAddr a) = 0x01#8 := by simp [stackAddr]

/-- No address outside page 1 is a stack address. -/
theorem ne_stackAddr {w : Word} (a : Byte) (h : hi w ≠ 0x01#8) : w ≠ stackAddr a :=
  fun e => h (e ▸ hi_stackAddr a)

/-- The memory after the three pushes of an exception, looked at outside page 1. -/
theorem read_pushedFrame (s : State) (w : Word) (status : Byte) (a : Word) (h : hi a ≠ 0x01#8) :
    Memory.read (pushedFrameMem w status s) a.toNat = Memory.read s.mem a.toNat := by
  unfold pushedFrameMem pushedWordMem
  rw [read_busWrite_ne _ _ _ (ne_stackAddr _ h), read_busWrite_ne _ _ _ (ne_stackAddr _ h),
    read_busWrite_ne _ _ _ (ne_stackAddr _ h)]

/-- Two reads as a word give what one after the other gives. -/
theorem readWordAt_eq (s : State) (low high : Word) :
    s.readWordAt low high = (s.peekWord low high, { s with bus := s.bus ++ readsOf [low, high] s }) := by
  simp [State.readWordAt, State.noteRead, List.append_assoc]

/-- Two states whose Bus stands alike for a list of addresses answer the reads of that list alike. -/
theorem readsOf_congr {l : List Word} {s t : State} (hm : t.map = s.map) (ha : t.answers = s.answers)
    (hd : t.deviceReads = s.deviceReads)
    (hr : ∀ addr ∈ l, Memory.read t.mem addr.toNat = Memory.read s.mem addr.toNat) : readsOf l t = readsOf l s := by
  induction l generalizing s t with
  | nil => rfl
  | cons addr rest ih =>
    rw [readsOf_cons, readsOf_cons, peek_congr hm ha hd (hr addr (by simp)),
      ih (s := s.noteRead addr) (t := t.noteRead addr) hm ha
        (by rw [noteRead_deviceReads, noteRead_deviceReads, hd, kindAt_congr hm])
        (fun b hb => hr b (by simp [hb]))]

/-- Two states whose Bus stands alike everywhere answer a list of accesses alike, and it leaves them the same
memory. -/
theorem accesses_congr {acc : List Access} {s t : State} (hm : t.map = s.map) (ha : t.answers = s.answers)
    (hd : t.deviceReads = s.deviceReads) (hr : t.mem = s.mem) :
    (applyAccesses acc t).mem = (applyAccesses acc s).mem ∧ (readsAnswered acc t ↔ readsAnswered acc s) := by
  induction acc generalizing s t with
  | nil => exact ⟨hr, Iff.rfl⟩
  | cons x xs ih =>
    cases x with
    | read addr v =>
      obtain ⟨h1, h2⟩ := ih (s := s.noteRead addr) (t := t.noteRead addr) hm ha
        (by rw [noteRead_deviceReads, noteRead_deviceReads, hd, kindAt_congr hm]) hr
      have hp : t.peek addr = s.peek addr := peek_congr hm ha hd (by rw [hr])
      exact ⟨h1, by simp only [readsAnswered, hp, h2]⟩
    | write addr v =>
      exact ih (s := s.memWrite addr v) (t := t.memWrite addr v) hm ha
        (by rw [memWrite_deviceReads, memWrite_deviceReads, hd]) (by rw [memWrite_mem, memWrite_mem, hm, hr])

/-- Accesses whose reads are answered add themselves to the Bus and keep what stands behind it. -/
theorem applyAccesses_spec {acc : List Access} {s : State} (h : readsAnswered acc s) :
    (applyAccesses acc s).bus = s.bus ++ acc ∧ (applyAccesses acc s).map = s.map ∧
      (applyAccesses acc s).answers = s.answers := by
  induction acc generalizing s with
  | nil => simp [applyAccesses]
  | cons x xs ih =>
    cases x with
    | read addr v =>
      obtain ⟨rfl, h⟩ := h
      obtain ⟨h1, h2, h3⟩ := ih h
      exact ⟨by rw [applyAccesses, h1]; simp, h2, h3⟩
    | write addr v =>
      obtain ⟨h1, h2, h3⟩ := ih h
      exact ⟨by rw [applyAccesses, h1]; simp, h2, h3⟩

/-- Two such states give the same word. -/
theorem peekWord_congr {s t : State} {low high : Word} (hm : t.map = s.map) (ha : t.answers = s.answers)
    (hd : t.deviceReads = s.deviceReads) (hl : Memory.read t.mem low.toNat = Memory.read s.mem low.toNat)
    (hh : Memory.read t.mem high.toNat = Memory.read s.mem high.toNat) :
    t.peekWord low high = s.peekWord low high := by
  unfold State.peekWord
  rw [peek_congr (s := s) hm ha hd hl,
    peek_congr (s := s.noteRead low) (t := t.noteRead low) hm ha
      (by rw [noteRead_deviceReads, noteRead_deviceReads, hd, kindAt_congr hm]) hh]

/-- Away from devices the word is what memory holds. -/
theorem peekWord_memory {s : State} {low high : Word} (hl : s.kindAt low ≠ .device) (hh : s.kindAt high ≠ .device) :
    s.peekWord low high = mkWord (Memory.read s.mem high.toNat) (Memory.read s.mem low.toNat) := by
  unfold State.peekWord
  rw [peek_memory (s := s.noteRead low) hh, peek_memory hl]
  rfl

/-- The state after the three pushes of an exception: three writes, SP down by three (R414). -/
theorem pushFrame_eq (s : State) (w : Word) (status : Byte) :
    (s.pushWord w).push status =
      { s with
        sp := s.sp - 3#8
        mem := pushedFrameMem w status s
        bus := s.bus ++ [.write (stackAddr s.sp) (hi w), .write (stackAddr (s.sp - 1#8)) (lo w),
          .write (stackAddr (s.sp - 2#8)) status] } := by
  have e2 : s.sp - 1#8 - 1#8 = s.sp - 2#8 := by bv_omega
  have e3 : s.sp - 1#8 - 1#8 - 1#8 = s.sp - 3#8 := by bv_omega
  simp only [State.pushWord, State.push, State.memWrite, pushedFrameMem, pushedWordMem, e3, ← e2,
    List.append_assoc, List.cons_append, List.nil_append]

/-- Taking an exception through a vector outside page 1 (R324, R414): three bytes pushed, I set and on WDC65C02 D
cleared, PC from the vector, five accesses. -/
theorem takeException_eq (s : State) (vector : Word) (status : Byte) (h0 : hi vector ≠ 0x01#8)
    (h1 : hi (vector + 1#16) ≠ 0x01#8) :
    s.takeException vector status =
      { s with
        pc := s.peekWord vector (vector + 1#16)
        sp := s.sp - 3#8
        p := entryStatus s.variant s.p
        mem := pushedFrameMem s.pc status s
        bus := s.bus ++ entryAccesses s.pc status vector s } := by
  obtain ⟨e, he⟩ : ∃ e : State, e = { s with
      sp := s.sp - 3#8
      p := entryStatus s.variant s.p
      mem := pushedFrameMem s.pc status s
      bus := s.bus ++ [.write (stackAddr s.sp) (hi s.pc), .write (stackAddr (s.sp - 1#8)) (lo s.pc),
        .write (stackAddr (s.sp - 2#8)) status] } := ⟨_, rfl⟩
  have hd : e.deviceReads = s.deviceReads := by
    simp [he, State.deviceReads, List.countP_append, isDeviceRead]
  have r0 : Memory.read e.mem vector.toNat = Memory.read s.mem vector.toNat := by
    rw [he]; exact read_pushedFrame s s.pc status vector h0
  have r1 : Memory.read e.mem (vector + 1#16).toNat = Memory.read s.mem (vector + 1#16).toNat := by
    rw [he]; exact read_pushedFrame s s.pc status (vector + 1#16) h1
  have hm : e.map = s.map := by rw [he]
  have ha : e.answers = s.answers := by rw [he]
  have hr : ∀ a ∈ [vector, vector + 1#16], Memory.read e.mem a.toNat = Memory.read s.mem a.toNat := by
    intro a h
    rcases List.mem_pair.1 h with rfl | rfl <;> assumption
  simp only [State.takeException, pushFrame_eq, State.read16, readWordAt_eq]
  rw [← he, peekWord_congr hm ha hd r0 r1, readsOf_congr hm ha hd hr]
  simp [entryAccesses]

/-- What RTI does (R323): P, PC and SP from the three bytes above SP, three reads. -/
theorem returnFromException_eq (s : State) :
    s.returnFromException =
      { s with
        p := pulledStatus (s.peek (stackAddr (s.sp + 1#8)))
        pc := (s.noteRead (stackAddr (s.sp + 1#8))).peekWord (stackAddr (s.sp + 2#8)) (stackAddr (s.sp + 3#8))
        sp := s.sp + 3#8
        bus := s.bus ++
          readsOf [stackAddr (s.sp + 1#8), stackAddr (s.sp + 2#8), stackAddr (s.sp + 3#8)] s } := by
  have e2 : s.sp + 1#8 + 1#8 = s.sp + 2#8 := by bv_omega
  have e3 : s.sp + 2#8 + 1#8 = s.sp + 3#8 := by bv_omega
  simp only [State.returnFromException, State.pullWord, State.pull, State.peekWord, e2, e3,
    readsOf_cons, readsOf_nil, State.noteRead, List.append_assoc, List.cons_append, List.nil_append]
  rfl

/-- What the reset sequence does (R462). -/
theorem resetSequence_eq (s : State) :
    s.resetSequence =
      { s with
        a := 0x00#8
        x := 0x00#8
        y := 0x00#8
        sp := 0xFD#8
        p := resetStatus s.variant s.p
        pc := s.peekWord 0xFFFC#16 0xFFFD#16
        halted := false
        waiting := false
        resetPending := false
        bus := s.bus ++ readsOf [0xFFFC#16, 0xFFFD#16] s } := by
  simp only [State.resetSequence, State.read16, readWordAt_eq, resetVector]
  rfl

end Sys2Proof.Laws
end

