-- ==== Sys2Proof/Laws/Families.lean ====
section
/-! SUPPORT. What each family's shared operation does, said once as an equation of states over the operand byte, the
accesses and the bonus of its mode. -/

namespace Sys2Proof.Laws

open Sys2Proof.Machine

/-- LDA in any mode. -/
theorem lda_eq (m : Mode) (s : State) :
    lda m s = { s with
      a := operandByte m s
      p := putZN (operandByte m s) s.p
      cycles := s.cycles + crossBonus m s
      bus := s.bus ++ operandReads m s } := by
  simp [lda, loadOperand_eq, chargeCross_eq, State.setZN]

/-- LDX in any mode. -/
theorem ldx_eq (m : Mode) (s : State) :
    ldx m s = { s with
      x := operandByte m s
      p := putZN (operandByte m s) s.p
      cycles := s.cycles + crossBonus m s
      bus := s.bus ++ operandReads m s } := by
  simp [ldx, loadOperand_eq, chargeCross_eq, State.setZN]

/-- LDY in any mode. -/
theorem ldy_eq (m : Mode) (s : State) :
    ldy m s = { s with
      y := operandByte m s
      p := putZN (operandByte m s) s.p
      cycles := s.cycles + crossBonus m s
      bus := s.bus ++ operandReads m s } := by
  simp [ldy, loadOperand_eq, chargeCross_eq, State.setZN]

/-- ADC in any mode. -/
theorem adc_eq (m : Mode) (s : State) :
    adc m s = { setSum (addBytes s.a (operandByte m s) (s.flag .c)) s with
      cycles := s.cycles + crossBonus m s
      bus := s.bus ++ operandReads m s } := by
  simp [adc, loadOperand_eq, chargeCross_eq, setSum, State.flag]

/-- SBC in any mode. -/
theorem sbc_eq (m : Mode) (s : State) :
    sbc m s = { setSum (subBytes s.a (operandByte m s) (s.flag .c)) s with
      cycles := s.cycles + crossBonus m s
      bus := s.bus ++ operandReads m s } := by
  simp [sbc, loadOperand_eq, chargeCross_eq, setSum, State.flag]

/-- CMP in any mode. -/
theorem cmp_eq (m : Mode) (s : State) :
    Sys2Proof.Machine.cmp m s = { s with
      p := compareStatus s.a (operandByte m s) s.p
      cycles := s.cycles + crossBonus m s
      bus := s.bus ++ operandReads m s } := by
  simp [Sys2Proof.Machine.cmp, loadOperand_eq, chargeCross_eq]

/-- CPX in any mode. -/
theorem cpx_eq (m : Mode) (s : State) :
    cpx m s = { s with
      p := compareStatus s.x (operandByte m s) s.p
      bus := s.bus ++ operandReads m s } := by
  simp [cpx, loadOperand_eq]

/-- CPY in any mode. -/
theorem cpy_eq (m : Mode) (s : State) :
    cpy m s = { s with
      p := compareStatus s.y (operandByte m s) s.p
      bus := s.bus ++ operandReads m s } := by
  simp [cpy, loadOperand_eq]

/-- AND in any mode. -/
theorem andA_eq (m : Mode) (s : State) :
    andA m s = { s with
      a := s.a &&& operandByte m s
      p := putZN (s.a &&& operandByte m s) s.p
      cycles := s.cycles + crossBonus m s
      bus := s.bus ++ operandReads m s } := by
  simp [andA, loadOperand_eq, chargeCross_eq, State.setZN]

/-- ORA in any mode. -/
theorem oraA_eq (m : Mode) (s : State) :
    oraA m s = { s with
      a := s.a ||| operandByte m s
      p := putZN (s.a ||| operandByte m s) s.p
      cycles := s.cycles + crossBonus m s
      bus := s.bus ++ operandReads m s } := by
  simp [oraA, loadOperand_eq, chargeCross_eq, State.setZN]

/-- EOR in any mode. -/
theorem eorA_eq (m : Mode) (s : State) :
    eorA m s = { s with
      a := s.a ^^^ operandByte m s
      p := putZN (s.a ^^^ operandByte m s) s.p
      cycles := s.cycles + crossBonus m s
      bus := s.bus ++ operandReads m s } := by
  simp [eorA, loadOperand_eq, chargeCross_eq, State.setZN]

/-- BIT in any mode. -/
theorem bitTest_eq (m : Mode) (s : State) :
    bitTest m s = { s with
      p := bitStatus m s.a (operandByte m s) s.p
      cycles := s.cycles + crossBonus m s
      bus := s.bus ++ operandReads m s } := by
  simp [bitTest, loadOperand_eq, chargeCross_eq]

/-- INC on memory. -/
theorem incMem_eq (m : Mode) (s : State) (hm : ∀ v, m ≠ .imm v) :
    incMem m s = { modified m (operandByte m s + 1#8) s with p := putZN (operandByte m s + 1#8) s.p } := by
  simp [incMem, modifyByte_eq m _ s hm, State.setZN, modified]

/-- DEC on memory. -/
theorem decMem_eq (m : Mode) (s : State) (hm : ∀ v, m ≠ .imm v) :
    decMem m s = { modified m (operandByte m s - 1#8) s with p := putZN (operandByte m s - 1#8) s.p } := by
  simp [decMem, modifyByte_eq m _ s hm, State.setZN, modified]

/-- A shift or rotate of memory. -/
theorem shiftMem_eq (op : ShiftOp) (m : Mode) (s : State) (hm : ∀ v, m ≠ .imm v) :
    shiftMem op m s =
      shiftedMem m (shiftByte op (s.flag .c) (operandByte m s)).res
        (shiftByte op (s.flag .c) (operandByte m s)).out s := by
  unfold shiftMem shiftedMem modified crossBonus
  simp only [modifyByte_eq m _ s hm, shiftStatus, State.chargeCross]
  cases hv : s.variant <;> cases hc : (resolve m s).crossed <;> simp [State.charge]

/-- TSB. -/
theorem tsb_eq (m : Mode) (s : State) (hm : ∀ v, m ≠ .imm v) :
    tsb m s = { modified m (operandByte m s ||| s.a) s with
      p := putFlag .z ((s.a &&& operandByte m s) == 0x00#8) s.p } := by
  simp [tsb, modifyByte_eq m _ s hm, State.setFlag, modified]

/-- TRB. -/
theorem trb_eq (m : Mode) (s : State) (hm : ∀ v, m ≠ .imm v) :
    trb m s = { modified m (operandByte m s &&& (s.a ^^^ 0xFF#8)) s with
      p := putFlag .z ((s.a &&& operandByte m s) == 0x00#8) s.p } := by
  simp [trb, modifyByte_eq m _ s hm, State.setFlag, modified]

/-- RMBn. -/
theorem rmb_eq (n : Nat) (o : Byte) (s : State) :
    rmb n o s = modified (.zp o) (operandByte (.zp o) s &&& ((1#8 <<< n) ^^^ 0xFF#8)) s := by
  simp [rmb, modifyByte_eq (.zp o) _ s (by simp), modified]

/-- SMBn. -/
theorem smb_eq (n : Nat) (o : Byte) (s : State) :
    smb n o s = modified (.zp o) (operandByte (.zp o) s ||| (1#8 <<< n)) s := by
  simp [smb, modifyByte_eq (.zp o) _ s (by simp), modified]

/-- JMP in any mode. -/
theorem jmp_eq (m : Mode) (s : State) :
    jmp m s = { s with pc := effectiveAddr m s, bus := s.bus ++ pointerReads m s } := by
  simp [jmp, resolve_st, effectiveAddr, afterPointers]

/-- A word pushed: two writes, high byte first. -/
theorem pushWord_eq (w : Word) (s : State) :
    s.pushWord w = { s with
      sp := s.sp - 2#8
      mem := pushedWordMem w s
      bus := s.bus ++ [.write (stackAddr s.sp) (hi w), .write (stackAddr (s.sp - 1#8)) (lo w)] } := by
  have e2 : s.sp - 1#8 - 1#8 = s.sp - 2#8 := by bv_omega
  simp [State.pushWord, State.push, State.memWrite, pushedWordMem, e2]

/-- JSR. -/
theorem jsr_eq (w : Word) (s : State) :
    jsr (.abs w) s = { s with
      pc := w
      sp := s.sp - 2#8
      mem := pushedWordMem (s.pc - 1#16) s
      bus := s.bus ++ [.write (stackAddr s.sp) (hi (s.pc - 1#16)),
        .write (stackAddr (s.sp - 1#8)) (lo (s.pc - 1#16))] } := by
  simp [jsr, resolve, resolvedAt, pushWord_eq]

/-- RTS. -/
theorem rts_eq (s : State) :
    rts s = { s with
      pc := s.peekWord (stackAddr (s.sp + 1#8)) (stackAddr (s.sp + 2#8)) + 1#16
      sp := s.sp + 2#8
      bus := s.bus ++ readsOf [stackAddr (s.sp + 1#8), stackAddr (s.sp + 2#8)] s } := by
  have e2 : s.sp + 1#8 + 1#8 = s.sp + 2#8 := by bv_omega
  simp only [rts, State.pullWord, State.pull, State.peekWord, e2, readsOf_cons, readsOf_nil, State.noteRead,
    List.append_assoc, List.cons_append, List.nil_append]
  rfl

/-- BRK. -/
theorem brk_eq (s : State) :
    brk s = { s with
      pc := s.peekWord 0xFFFE#16 0xFFFF#16
      sp := s.sp - 3#8
      p := entryStatus s.variant s.p
      mem := pushedFrameMem (s.pc + 1#16) (stackedByBrk s.p) s
      bus := s.bus ++ entryAccesses (s.pc + 1#16) (stackedByBrk s.p) 0xFFFE#16 s } := by
  unfold brk
  rw [takeException_eq _ _ _ (by decide) (by decide)]
  rfl

/-- A conditional branch. -/
theorem branchIf_eq (f : Flag) (sense : Bool) (off : Byte) (s : State) :
    branchIf f sense off s =
      if s.flag f = sense then
        { s with
          pc := s.pc + sext16 off
          cycles := s.cycles + takenCost s.pc (s.pc + sext16 off) }
      else s := by
  unfold branchIf takenCost
  simp only [resolve, resolvedAt, takeBranch, pageCrossed, State.chargeCross, State.charge]
  split
  · by_cases h : hi s.pc = hi (s.pc + sext16 off) <;> simp [h]
  · rfl

/-- BRA. -/
theorem branchAlways_eq (off : Byte) (s : State) :
    branchAlways off s =
      { s with
        pc := s.pc + sext16 off
        cycles := s.cycles + (if hi s.pc = hi (s.pc + sext16 off) then 0 else 1) } := by
  unfold branchAlways
  simp only [resolve, resolvedAt, pageCrossed, State.chargeCross, State.charge]
  by_cases h : hi s.pc = hi (s.pc + sext16 off) <;> simp [h]

/-- BBRn and BBSn. -/
theorem branchOnBit_eq (n : Nat) (sense : Bool) (zp off : Byte) (s : State) :
    branchOnBit n sense zp off s =
      if (s.peek (zext16 zp)).getLsbD n = sense then
        { s with
          bus := s.bus ++ [.read (zext16 zp) (s.peek (zext16 zp))]
          pc := s.pc + sext16 off
          cycles := s.cycles + takenCost s.pc (s.pc + sext16 off) }
      else { s with bus := s.bus ++ [.read (zext16 zp) (s.peek (zext16 zp))] } := by
  unfold branchOnBit takenCost
  simp only [resolveZpRel, takeBranch, pageCrossed, State.chargeCross, State.charge, State.memRead]
  by_cases hb : (s.peek (zext16 zp)).getLsbD n = sense
  · by_cases h : hi s.pc = hi (s.pc + sext16 off) <;> simp [hb, h, State.noteRead]
  · simp [hb, State.noteRead]

/-- An exception entry of NMI or IRQ through a vector outside page 1. -/
theorem interruptEntry_eq (s : State) (vector : Word) (h0 : hi vector ≠ 0x01#8) (h1 : hi (vector + 1#16) ≠ 0x01#8) :
    s.interruptEntry vector = { s with
      pc := s.peekWord vector (vector + 1#16)
      sp := s.sp - 3#8
      p := entryStatus s.variant s.p
      mem := pushedFrameMem s.pc (stackedByInterrupt s.p) s
      bus := s.bus ++ entryAccesses s.pc (stackedByInterrupt s.p) vector s
      waiting := false } := by
  unfold State.interruptEntry
  rw [takeException_eq _ _ _ h0 h1]

/-- The modes of the reserved opcodes make no pointer read, so nothing happens. -/
theorem discardOperand_eq (m : Mode) (s : State) (h : pointerReads m s = []) : discardOperand m s = s := by
  simp [discardOperand, resolve_st, afterPointers, h]

end Sys2Proof.Laws
end

