-- ==== Sys2Proof/Laws/Step.lean ====
section
/-! SUPPORT. What a step can do, said once: the driver's cases, the fetch as a decoding of the bytes at PC, and the
outcomes of `step`. -/

namespace Sys2Proof.Laws

open Sys2Proof.Machine

/-- Two instruction bytes read are two fetches. -/
theorem fetchedBytes_succ (n : Nat) (s : State) :
    State.fetchedBytes (n + 1) s = State.fetchedBytes n s.fetch8.2 := rfl

/-- What a fetch finds once the row of the byte at PC is known (R413, R122): it reads exactly the bytes of the
instruction. -/
def fetchedAs (s : State) : Option OpForm → Fetched
  | none => .undefined (State.fetchedBytes 1 s)
  | some (.f1 i) => .instr i (State.fetchedBytes 1 s)
  | some (.f2 build) => .instr (build ((s.noteRead s.pc).peek (s.pc + 1#16))) (State.fetchedBytes 2 s)
  | some (.f3 build) =>
    .instr (build (mkWord (((s.noteRead s.pc).noteRead (s.pc + 1#16)).peek (s.pc + 2#16))
      ((s.noteRead s.pc).peek (s.pc + 1#16)))) (State.fetchedBytes 3 s)
  | some (.f3zr build) =>
    .instr (build ((s.noteRead s.pc).peek (s.pc + 1#16))
      (((s.noteRead s.pc).noteRead (s.pc + 1#16)).peek (s.pc + 2#16))) (State.fetchedBytes 3 s)

/-- The fetch decodes the bytes at PC (R413, R122). -/
theorem fetchInstr_eq (s : State) : fetchInstr s = fetchedAs s (opForm s.variant (s.peek s.pc)) := by
  have e2 : s.pc + 1#16 + 1#16 = s.pc + 2#16 := by bv_omega
  unfold fetchInstr
  have h : s.fetch8.1 = s.peek s.pc := rfl
  simp only [h]
  cases opForm s.variant (s.peek s.pc) with
  | none => rfl
  | some f =>
    cases f <;>
      simp only [fetchedAs, State.fetchedBytes, State.fetch8, State.noteRead, e2] <;> rfl

/-- What a transition can answer when it answers a next state (R410, R415), one case per branch of the driver. -/
theorem transition_cases {s t : State} (h : transition s = .next t) :
    (s.resetPending = true ∧ t = s.resetWithBudget.tick) ∨
    (s.resetPending = false ∧ s.nmiPending = true ∧ t = s.nmiEntry.tick) ∨
    (s.resetPending = false ∧ s.nmiPending = false ∧ s.irqPending = true ∧ s.flag .i = false ∧
      t = s.irqEntry.tick) ∨
    (s.resetPending = false ∧ s.nmiPending = false ∧ s.waiting = true ∧ s.irqPending = false ∧ t = s) ∨
    (s.resetPending = false ∧ s.nmiPending = false ∧ dispatch { s with waiting := false } = .next t) := by
  unfold transition at h
  split at h
  · next hr => exact .inl ⟨hr, by injection h with h; exact h.symm⟩
  · next hr =>
    have hr' : s.resetPending = false := by simpa using hr
    split at h
    · next hn => exact .inr (.inl ⟨hr', hn, by injection h with h; exact h.symm⟩)
    · next hn =>
      have hn' : s.nmiPending = false := by simpa using hn
      split at h
      · next hi =>
        simp only [Bool.and_eq_true, Bool.not_eq_true'] at hi
        exact .inr (.inr (.inl ⟨hr', hn', hi.1, hi.2, by injection h with h; exact h.symm⟩))
      · split at h
        · next hw =>
          simp only [Bool.and_eq_true, Bool.not_eq_true'] at hw
          exact .inr (.inr (.inr (.inl ⟨hr', hn', hw.1, hw.2, by injection h with h; exact h.symm⟩)))
        · exact .inr (.inr (.inr (.inr ⟨hr', hn', h⟩)))

/-- What a dispatch can answer: the halt of an undefined byte, or an executed instruction with its base cycles
charged and one tick taken (R413). -/
theorem dispatch_cases {s t : State} (h : dispatch s = .next t) :
    (∃ u, fetchInstr s = .undefined u ∧ t = { u with halted := true }) ∨
    (∃ i u w, fetchInstr s = .instr i u ∧ exec i u = .next w ∧
      t = (w.charge (baseCycles s.costs s.variant i.opcode)).tick) := by
  unfold dispatch at h
  split at h
  · next u hu => exact .inl ⟨u, hu, by injection h with h; exact h.symm⟩
  · next i u hu =>
    split at h
    · next w hw => exact .inr ⟨i, u, w, hu, hw, by injection h with h; exact h.symm⟩
    · cases h
    · cases h

/-- What a step can answer when it answers a next state (R410): nothing while halted, the reset of a halted core, the
decrement, or a transition. -/
theorem step_cases {s t : State} (h : step s = .next t) :
    s.started = true ∧
    ((s.halted = true ∧ s.resetPending = false ∧ t = s) ∨
     (s.halted = true ∧ s.resetPending = true ∧ t = s.resetWithBudget.tick) ∨
     (s.halted = false ∧ s.cycles ≠ 0 ∧ t = s.tick) ∨
     (s.halted = false ∧ s.cycles = 0 ∧ transition s = .next t)) := by
  unfold step stepCore at h
  split at h
  · next hs =>
    refine ⟨hs, ?_⟩
    unfold clockTick at h
    split at h
    · next hh =>
      split at h
      · next hr => exact .inr (.inl ⟨hh, hr, by injection h with h; exact h.symm⟩)
      · next hr => exact .inl ⟨hh, by simpa using hr, by injection h with h; exact h.symm⟩
    · next hh =>
      have hh' : s.halted = false := by simpa using hh
      split at h
      · next hc => exact .inr (.inr (.inr ⟨hh', hc, h⟩))
      · next hc => exact .inr (.inr (.inl ⟨hh', hc, by injection h with h; exact h.symm⟩))
  · cases h

/-- A fetch adds its reads to the Bus and moves PC; nothing else changes. -/
theorem fetchedBytes_eq (n : Nat) (s : State) :
    State.fetchedBytes n s =
      { s with pc := (State.fetchedBytes n s).pc, bus := (State.fetchedBytes n s).bus } := by
  induction n generalizing s with
  | zero => rfl
  | succ n ih => rw [fetchedBytes_succ, ih]; rfl

/-- PC after `n` instruction bytes. -/
theorem fetchedBytes_pc (n : Nat) (s : State) : (State.fetchedBytes n s).pc = s.pc + BitVec.ofNat 16 n := by
  induction n generalizing s with
  | zero => simp [State.fetchedBytes]
  | succ n ih =>
    rw [fetchedBytes_succ, ih]
    simp only [fetch8_pc]
    apply BitVec.eq_of_toNat_eq
    simp [BitVec.toNat_add]
    omega

/-- A fetch adds the reads of its bytes to the Bus, in ascending addresses. -/
theorem fetchedBytes_bus (n : Nat) (s : State) :
    (State.fetchedBytes n s).bus =
      s.bus ++ readsOf ((List.range n).map fun k => s.pc + BitVec.ofNat 16 k) s := by
  induction n generalizing s with
  | zero => simp [State.fetchedBytes]
  | succ n ih =>
    have e : (fun k => s.fetch8.2.pc + BitVec.ofNat 16 k) = (fun k => s.pc + BitVec.ofNat 16 (k + 1)) := by
      funext k
      rw [fetch8_pc, BitVec.add_assoc]
      congr 1
      apply BitVec.eq_of_toNat_eq
      simp [BitVec.toNat_add]
      omega
    have hr : ∀ l, readsOf l s.fetch8.2 = readsOf l (s.noteRead s.pc) := fun l =>
      readsOf_congr rfl rfl rfl (fun _ _ => rfl)
    rw [fetchedBytes_succ, ih, e, hr, List.range_succ_eq_map, List.map_cons, readsOf_cons, List.map_map, fetch8_bus]
    simp [Function.comp_def]

/-- A run of one more step, when the first step answers, of any machine. -/
theorem coreRun_succ (m : Host.Core) {s t : m.State} (n : Nat) (h : m.step s = .next t) :
    m.run (n + 1) s = m.run n t := by
  rw [Host.Core.run, h]

/-- A run of one step is the step. -/
theorem coreRun_one (m : Host.Core) (s : m.State) : m.run 1 s = m.step s := by
  rw [Host.Core.run]
  cases m.step s <;> rfl

/-- A run goes on from where a shorter run ended. -/
theorem coreRun_add (m : Host.Core) {s t : m.State} (n k : Nat) (h : m.run n s = .next t) :
    m.run (n + k) s = m.run k t := by
  induction n generalizing s with
  | zero =>
    rw [Host.Core.run] at h
    injection h with h
    rw [h, Nat.zero_add]
  | succ n ih =>
    cases hs : m.step s with
    | next u =>
      rw [coreRun_succ m n hs] at h
      rw [Nat.succ_add, coreRun_succ m (n + k) hs]
      exact ih h
    | fault r => rw [Host.Core.run, hs] at h; cases h
    | refused r => rw [Host.Core.run, hs] at h; cases h

/-- A run of one more step, when the first step answers. -/
theorem run_succ {s t : State} (n : Nat) (h : step s = .next t) : core.run (n + 1) s = core.run n t :=
  coreRun_succ core n h

/-- A run of one step is the step. -/
theorem run_one (s : State) : core.run 1 s = step s := coreRun_one core s

/-- A run goes on from where a shorter run ended. -/
theorem run_add {s t : State} (n k : Nat) (h : core.run n s = .next t) : core.run (n + k) s = core.run k t :=
  coreRun_add core n k h

/-- At a zero-budget transition a step is the transition (R410). -/
theorem step_transition {s : State} (hs : s.started = true) (hh : s.halted = false) (hc : s.cycles = 0) :
    step s = transition s := by
  unfold step stepCore clockTick
  rw [if_pos hs, if_neg (by simp [hh]), if_pos hc]

/-- A step of a core that owes cycles (R410). -/
theorem step_owing {s : State} (hs : s.started = true) (hh : s.halted = false) (hc : s.cycles ≠ 0) :
    step s = .next s.tick := by
  unfold step stepCore clockTick
  rw [if_pos hs, if_neg (by simp [hh]), if_neg hc]

/-- A step of a halted core (R395, R420). -/
theorem step_halted {s : State} (hs : s.started = true) (hh : s.halted = true) :
    step s = if s.resetPending then .next s.resetWithBudget.tick else .next s := by
  unfold step stepCore clockTick
  rw [if_pos hs, if_pos hh]

/-- What the NMI branch of a transition leaves (R411, R414). -/
theorem nmiEntry_tick_eq (s : State) :
    s.nmiEntry.tick = { s with
      pc := s.peekWord 0xFFFA#16 0xFFFB#16
      sp := s.sp - 3#8
      p := entryStatus s.variant s.p
      mem := pushedFrameMem s.pc (stackedByInterrupt s.p) s
      bus := s.bus ++ entryAccesses s.pc (stackedByInterrupt s.p) 0xFFFA#16 s
      waiting := false
      nmiPending := false
      cycles := 6 } := by
  unfold State.nmiEntry nmiVector
  rw [interruptEntry_eq _ _ (by decide) (by decide)]
  rfl

/-- What the IRQ branch of a transition leaves (R412, R414). -/
theorem irqEntry_tick_eq (s : State) :
    s.irqEntry.tick = { s with
      pc := s.peekWord 0xFFFE#16 0xFFFF#16
      sp := s.sp - 3#8
      p := entryStatus s.variant s.p
      mem := pushedFrameMem s.pc (stackedByInterrupt s.p) s
      bus := s.bus ++ entryAccesses s.pc (stackedByInterrupt s.p) 0xFFFE#16 s
      waiting := false
      irqPending := false
      cycles := 6 } := by
  unfold State.irqEntry irqVector
  rw [interruptEntry_eq _ _ (by decide) (by decide)]
  rfl

/-- What the reset branch of a step leaves (R410 item 1, R462). -/
theorem resetWithBudget_tick_eq (s : State) :
    s.resetWithBudget.tick = { s with
      a := 0x00#8
      x := 0x00#8
      y := 0x00#8
      sp := 0xFD#8
      p := resetStatus s.variant s.p
      pc := s.peekWord 0xFFFC#16 0xFFFD#16
      halted := false
      waiting := false
      resetPending := false
      bus := s.bus ++ readsOf [0xFFFC#16, 0xFFFD#16] s
      cycles := resetCycles s.variant - 1 } := by
  simp only [State.resetWithBudget, State.tick, resetSequence_eq]

end Sys2Proof.Laws
end

