-- ==== Sys2Proof/Tests/Slice0.lean ====
section
/-! SUPPORT. Tests, each about one step, with expected results from the spec's own tables and examples; the
well-formedness smoke test; and a witness for the hypotheses of every obligation that has some. -/

namespace Sys2Proof.Tests

open Sys2Proof.Machine

/-- An access as a row of 95_test_vectors.md writes it: `Rxxxx` or `Wxxxx=vv`. -/
inductive Seen where
  | r (a : Word)
  | w (a : Word) (v : Byte)
  deriving DecidableEq

/-- What a row of 95_test_vectors.md lists of a state. -/
structure Obs where
  a : Byte
  x : Byte
  y : Byte
  sp : Byte
  pc : Word
  p : Byte
  cycles : Nat
  halted : Bool
  waiting : Bool
  bus : List Seen
  deriving DecidableEq

/-- The access of a row. -/
def seen : Access → Seen
  | .read a _ => .r a
  | .write a v => .w a v

/-- What a row lists of a state. -/
def obs (s : State) : Obs :=
  ⟨s.a, s.x, s.y, s.sp, s.pc, s.p, s.cycles, s.halted, s.waiting, s.bus.map seen⟩

/-- The start state of every row (95_test_vectors.md section 0): PC = 8000, nothing owed, an empty Bus record. -/
def blank : State := { State.reset with pc := 0x8000#16, cycles := 0, bus := [] }

/-- A memory with bytes stored. -/
def load (cells : List (Word × Byte)) (m : List Host.Cell) : List Host.Cell :=
  cells.foldl (fun m c => Memory.write m c.1.toNat c.2) m

/-- One step with instruction bytes at PC and other memory. -/
def run1 (v : Variant) (bytes : List Byte) (cells : List (Word × Byte)) (s : State) : Option Obs :=
  match step { s with variant := v, mem := placeBytes bytes s.pc (load cells s.mem) } with
  | .next t => some (obs t)
  | _ => none

/-- One step that both variants take alike. -/
def runBoth (bytes : List Byte) (cells : List (Word × Byte)) (s : State) : Option Obs :=
  if run1 .nmos bytes cells s = run1 .wdc65c02 bytes cells s then run1 .nmos bytes cells s else none

/-- The vectors of section 3: FFFA/B = A000, FFFC/D = 8000, FFFE/F = 9000. -/
def vectors : List (Word × Byte) := [(0xFFFB#16, 0xA0#8), (0xFFFD#16, 0x80#8), (0xFFFF#16, 0x90#8)]

/-- A state with the latches of section 3's rows. -/
def obsLatched (s : State) : Obs × Bool × Bool × Bool := (obs s, s.resetPending, s.nmiPending, s.irqPending)

/-- One call of `step()` in a row of section 3. -/
def callStep (cells : List (Word × Byte)) (s : State) : Option (Obs × Bool × Bool × Bool) :=
  match step { s with mem := load (vectors ++ cells) s.mem } with
  | .next t => some (obsLatched t)
  | _ => none

/-- One call of `reset()` in a row of section 3. -/
def callReset (cells : List (Word × Byte)) (s : State) : Option (Obs × Bool × Bool × Bool) :=
  some (obsLatched (State.hostReset { s with mem := load (vectors ++ cells) s.mem }))

/-! ### Well-formedness and decoding -/

/-- Ill-formed: an instruction NMOS does not have, of each kind of R123 (one of the 61, a reserved NOP). -/
theorem test_illFormed_new : Instr.wellFormed .nmos (.bra 0x10#8) = false := by decide
theorem test_illFormed_reserved : Instr.wellFormed .nmos .nop03 = false := by decide
theorem test_wellFormed_wdc : Instr.wellFormed .wdc65c02 (.bra 0x10#8) = true := by decide
theorem test_wellFormed_nmos : Instr.wellFormed .nmos (.ldaImm 0x42#8) = true := by decide

/-- The opcode of an instruction NMOS does not have is rejected (R130), by name. -/
theorem test_decode_undefined : decode .nmos [0x80#8, 0x10#8] = .error (.undefinedOpcode 0x80#8) := by decide

/-- An operand byte is missing. -/
theorem test_decode_truncated : decode .nmos [0xAD#8, 0x00#8] = .error .truncated := by decide

/-- One word of each family that is not in the obligation SpecWordsDecode, from the tables R126 and R128. -/
theorem test_decode_store : decode .nmos [0x96#8, 0x10#8] = .ok (.stxZpY 0x10#8, []) := by decide
theorem test_decode_transfer : decode .nmos [0xBA#8, 0xEA#8] = .ok (.tsx, [0xEA#8]) := by decide
theorem test_decode_arith : decode .nmos [0xF9#8, 0x34#8, 0x12#8] = .ok (.sbcAbsY 0x1234#16, []) := by decide
theorem test_decode_compare : decode .nmos [0xCC#8, 0x34#8, 0x12#8] = .ok (.cpyAbs 0x1234#16, []) := by decide
theorem test_decode_incdec : decode .nmos [0xD6#8, 0x80#8] = .ok (.decZpX 0x80#8, []) := by decide
theorem test_decode_shift : decode .nmos [0x36#8, 0xFF#8] = .ok (.rolZpX 0xFF#8, []) := by decide
theorem test_decode_logic : decode .nmos [0x41#8, 0x20#8] = .ok (.eorIndX 0x20#8, []) := by decide
theorem test_decode_jump :
    decode .wdc65c02 [0x7C#8, 0x00#8, 0x20#8] = .ok (.jmpAbsIndX 0x2000#16, []) := by decide
theorem test_decode_branch : decode .nmos [0x50#8, 0xFE#8] = .ok (.bvc 0xFE#8, []) := by decide
theorem test_decode_flag : decode .nmos [0xD8#8] = .ok (.cld, []) := by decide
theorem test_decode_bit : decode .wdc65c02 [0xE7#8, 0x10#8] = .ok (.smb6 0x10#8, []) := by decide
theorem test_decode_bitBranch :
    decode .wdc65c02 [0x6F#8, 0x20#8, 0x7F#8] = .ok (.bbr6 0x20#8 0x7F#8, []) := by decide
theorem test_decode_control : decode .wdc65c02 [0xDB#8] = .ok (.stp, []) := by decide
theorem test_decodeTableWord : decodeTableWord 24 0x1234BD = some (.ldaAbsX 0x1234#16) := by decide

/-! ### Memory -/

/-- Writing what an unlisted address reads as removes the entry; entries stay in rising order. -/
theorem test_memory_remove : Memory.write [(5, 0x01#8)] 5 0x00#8 = [] := by decide
theorem test_memory_order :
    Memory.write [(5, 0x01#8), (9, 0x02#8)] 7 0x03#8 = [(5, 0x01#8), (7, 0x03#8), (9, 0x02#8)] := by decide
theorem test_memory_wf : Memory.wf [(5, 0x01#8), (5, 0x02#8)] = false ∧ Memory.wf [(65536, 0x01#8)] = false ∧
    Memory.wf [(65535, 0x01#8)] = true := by decide

/-! ### Reset and the host's words -/

/-- From reset with an instruction placed, the very next step runs it. -/
theorem test_withFetchWord :
    (match step (State.reset.withFetchWord 16 0x42A9) with
      | .next t => some (t.a, t.pc)
      | _ => none) = some (0x42#8, 0x0002#16) := by decide

/-- Scenario 1 of 95_test_vectors.md: PC from the vector, SP = FD, 6 or 7 cycles. -/
theorem test_powerOn :
    (State.hostReset { blank with variant := .nmos, mem := load vectors [] }).cycles = 6 ∧
    (State.hostReset { blank with variant := .wdc65c02, mem := load vectors [] }).pc = 0x8000#16 := by decide

/-! ### The parameters: what stands behind the Bus, and the table of base cycles (R6, R80, R131) -/

/-- A platform with a device at D000 to DFFF and ROM from E000 up. -/
def platform : List Region :=
  [⟨0xD000#16, 0xDFFF#16, .device⟩, ⟨0xE000#16, 0xFFFF#16, .rom⟩]

/-- The edges of its regions. -/
theorem test_kindIn : kindIn platform 0xCFFF#16 = .ram ∧ kindIn platform 0xD000#16 = .device ∧
    kindIn platform 0xDFFF#16 = .device ∧ kindIn platform 0xE000#16 = .rom ∧
    kindIn platform 0xFFFF#16 = .rom := by decide

/-- A write to ROM is made on the Bus (R87) and changes nothing there. -/
theorem test_store_rom :
    (match exec (.staAbs 0xE000#16) { blank with map := platform, a := 0x55#8, mem := [(0xE000, 0x11#8)] } with
      | .next t => some (t.mem, t.bus)
      | _ => none) = some ([(0xE000, 0x11#8)], [.write 0xE000#16 0x55#8]) := by decide

/-- A read of a device changes what the next one answers: the pointer bytes of `JMP ($D000)` are its first two
answers, low byte first. -/
theorem test_device_reads :
    (match exec (.jmpInd 0xD000#16) { blank with map := platform, answers := [0x34#8, 0x12#8] } with
      | .next t => some (t.pc, t.bus)
      | _ => none) =
    some (0x1234#16, [.read 0xD000#16 0x34#8, .read 0xD001#16 0x12#8]) := by decide

/-- INC of a device: its answer is read, the sum is written to it (R284), and memory holds neither. -/
theorem test_inc_device :
    (match exec (.incAbs 0xD000#16) { blank with map := platform, answers := [0x41#8] } with
      | .next t => some (t.mem, t.bus, t.flag .z)
      | _ => none) = some ([], [.read 0xD000#16 0x41#8, .write 0xD000#16 0x42#8], false) := by decide

/-- Another table of base cycles changes what an instruction costs: NOP at 9 cycles leaves 8 owed. -/
theorem test_costs :
    (match step { blank with
        costs := { nmos := [], wdc65c02 := List.replicate 256 9 }, mem := [(0x8000, 0xEA#8)] } with
      | .next t => some (t.pc, t.cycles)
      | _ => none) = some (0x8001#16, 8) := by decide

/-- An instruction is placed also where a device would answer the fetch. -/
theorem test_withFetchWord_device :
    (match step (State.withFetchWord { blank with map := platform, pc := 0xD000#16 } 16 0x42A9) with
      | .next t => some (t.a, t.pc)
      | _ => none) = some (0x42#8, 0xD002#16) := by decide


/-! ### Steps: the rows of 95_test_vectors.md section 2, each with the Bus accesses in order -/

/-- Vector V004: LDA zp,X wrap. -/
theorem test_V004 :
    runBoth [0xB5#8, 0x11#8] [(0x0010#16, 0xAB#8), (0x0110#16, 0xCD#8)]
      { blank with x := 0xFF#8 } =
    some ⟨0xAB#8, 0xFF#8, 0x00#8, 0xFD#8, 0x8002#16, 0xA4#8, 3, false, false, [.r 0x8000#16, .r 0x8001#16, .r 0x0010#16]⟩ := by decide

/-- Vector V007: LDA abs,X cross. -/
theorem test_V007 :
    runBoth [0xBD#8, 0xFF#8, 0x10#8] [(0x1100#16, 0x80#8)]
      { blank with x := 0x01#8 } =
    some ⟨0x80#8, 0x01#8, 0x00#8, 0xFD#8, 0x8003#16, 0xA4#8, 4, false, false, [.r 0x8000#16, .r 0x8001#16, .r 0x8002#16, .r 0x1100#16]⟩ := by decide

/-- Vector V008: LDA abs,Y wrap 64K. -/
theorem test_V008 :
    runBoth [0xB9#8, 0xFF#8, 0xFF#8] [(0x0001#16, 0x42#8)]
      { blank with y := 0x02#8 } =
    some ⟨0x42#8, 0x00#8, 0x02#8, 0xFD#8, 0x8003#16, 0x24#8, 4, false, false, [.r 0x8000#16, .r 0x8001#16, .r 0x8002#16, .r 0x0001#16]⟩ := by decide

/-- Vector V010: LDA (zp,X) wrap. -/
theorem test_V010 :
    runBoth [0xA1#8, 0xFF#8] [(0x0000#16, 0x30#8), (0x00FF#16, 0x00#8), (0x0100#16, 0x40#8), (0x3000#16, 0x5A#8), (0x4000#16, 0xEE#8)]
      { blank with x := 0x00#8 } =
    some ⟨0x5A#8, 0x00#8, 0x00#8, 0xFD#8, 0x8002#16, 0x24#8, 5, false, false, [.r 0x8000#16, .r 0x8001#16, .r 0x00FF#16, .r 0x0000#16, .r 0x3000#16]⟩ := by decide

/-- Vector V013: LDA (zp),Y wrap. -/
theorem test_V013 :
    runBoth [0xB1#8, 0xFF#8] [(0x0000#16, 0x30#8), (0x00FF#16, 0x10#8), (0x0100#16, 0x40#8), (0x3011#16, 0x5A#8)]
      { blank with y := 0x01#8 } =
    some ⟨0x5A#8, 0x00#8, 0x01#8, 0xFD#8, 0x8002#16, 0x24#8, 4, false, false, [.r 0x8000#16, .r 0x8001#16, .r 0x00FF#16, .r 0x0000#16, .r 0x3011#16]⟩ := by decide

/-- Vector V014': LDA (zp). -/
theorem test_V014w :
    run1 .wdc65c02 [0xB2#8, 0x10#8] [(0x0010#16, 0x00#8), (0x0011#16, 0x30#8), (0x3000#16, 0xC3#8)]
      blank =
    some ⟨0xC3#8, 0x00#8, 0x00#8, 0xFD#8, 0x8002#16, 0xA4#8, 4, false, false, [.r 0x8000#16, .r 0x8001#16, .r 0x0010#16, .r 0x0011#16, .r 0x3000#16]⟩ := by decide

/-- Vector V015: LDX zp,Y wrap. -/
theorem test_V015 :
    runBoth [0xB6#8, 0xF0#8] [(0x0010#16, 0x33#8)]
      { blank with y := 0x20#8 } =
    some ⟨0x00#8, 0x33#8, 0x20#8, 0xFD#8, 0x8002#16, 0x24#8, 3, false, false, [.r 0x8000#16, .r 0x8001#16, .r 0x0010#16]⟩ := by decide

/-- Vector V016: LDX abs,Y cross. -/
theorem test_V016 :
    runBoth [0xBE#8, 0x80#8, 0x20#8] [(0x2100#16, 0x00#8)]
      { blank with y := 0x80#8 } =
    some ⟨0x00#8, 0x00#8, 0x80#8, 0xFD#8, 0x8003#16, 0x26#8, 4, false, false, [.r 0x8000#16, .r 0x8001#16, .r 0x8002#16, .r 0x2100#16]⟩ := by decide

/-- Vector V017: LDY abs,X cross. -/
theorem test_V017 :
    runBoth [0xBC#8, 0xFF#8, 0x20#8] [(0x21FE#16, 0xF0#8)]
      { blank with x := 0xFF#8 } =
    some ⟨0x00#8, 0xFF#8, 0xF0#8, 0xFD#8, 0x8003#16, 0xA4#8, 4, false, false, [.r 0x8000#16, .r 0x8001#16, .r 0x8002#16, .r 0x21FE#16]⟩ := by decide

/-- Vector V019: STA abs,X cross. -/
theorem test_V019 :
    runBoth [0x9D#8, 0xFF#8, 0x10#8] []
      { blank with a := 0xAA#8, x := 0x01#8 } =
    some ⟨0xAA#8, 0x01#8, 0x00#8, 0xFD#8, 0x8003#16, 0x24#8, 4, false, false, [.r 0x8000#16, .r 0x8001#16, .r 0x8002#16, .w 0x1100#16 0xAA#8]⟩ := by decide

/-- Vector V020: STA (zp),Y cross. -/
theorem test_V020 :
    runBoth [0x91#8, 0x22#8] [(0x0022#16, 0x01#8), (0x0023#16, 0x30#8)]
      { blank with a := 0x5A#8, y := 0xFF#8 } =
    some ⟨0x5A#8, 0x00#8, 0xFF#8, 0xFD#8, 0x8002#16, 0x24#8, 5, false, false, [.r 0x8000#16, .r 0x8001#16, .r 0x0022#16, .r 0x0023#16, .w 0x3100#16 0x5A#8]⟩ := by decide

/-- Vector V023: STX zp,Y. -/
theorem test_V023 :
    runBoth [0x96#8, 0xFF#8] []
      { blank with x := 0x05#8, y := 0x02#8 } =
    some ⟨0x00#8, 0x05#8, 0x02#8, 0xFD#8, 0x8002#16, 0x24#8, 3, false, false, [.r 0x8000#16, .r 0x8001#16, .w 0x0001#16 0x05#8]⟩ := by decide

/-- Vector V024: STY zp,X. -/
theorem test_V024 :
    runBoth [0x94#8, 0x10#8] []
      { blank with y := 0x80#8, x := 0x01#8 } =
    some ⟨0x00#8, 0x01#8, 0x80#8, 0xFD#8, 0x8002#16, 0x24#8, 3, false, false, [.r 0x8000#16, .r 0x8001#16, .w 0x0011#16 0x80#8]⟩ := by decide

/-- Vector V026': STZ abs,X. -/
theorem test_V026w :
    run1 .wdc65c02 [0x9E#8, 0xFF#8, 0x10#8] [(0x1100#16, 0xFF#8)]
      { blank with x := 0x01#8 } =
    some ⟨0x00#8, 0x01#8, 0x00#8, 0xFD#8, 0x8003#16, 0x24#8, 4, false, false, [.r 0x8000#16, .r 0x8001#16, .r 0x8002#16, .w 0x1100#16 0x00#8]⟩ := by decide

/-- Vector V027: TAX. -/
theorem test_V027 :
    runBoth [0xAA#8] []
      { blank with a := 0x80#8 } =
    some ⟨0x80#8, 0x80#8, 0x00#8, 0xFD#8, 0x8001#16, 0xA4#8, 1, false, false, [.r 0x8000#16]⟩ := by decide

/-- Vector V028: TAY. -/
theorem test_V028 :
    runBoth [0xA8#8] []
      { blank with a := 0x00#8, y := 0x55#8 } =
    some ⟨0x00#8, 0x00#8, 0x00#8, 0xFD#8, 0x8001#16, 0x26#8, 1, false, false, [.r 0x8000#16]⟩ := by decide

/-- Vector V029: TXA. -/
theorem test_V029 :
    runBoth [0x8A#8] []
      { blank with x := 0x7F#8 } =
    some ⟨0x7F#8, 0x7F#8, 0x00#8, 0xFD#8, 0x8001#16, 0x24#8, 1, false, false, [.r 0x8000#16]⟩ := by decide

/-- Vector V030: TYA. -/
theorem test_V030 :
    runBoth [0x98#8] []
      { blank with y := 0xFF#8 } =
    some ⟨0xFF#8, 0x00#8, 0xFF#8, 0xFD#8, 0x8001#16, 0xA4#8, 1, false, false, [.r 0x8000#16]⟩ := by decide

/-- Vector V031: TSX. -/
theorem test_V031 :
    runBoth [0xBA#8] []
      { blank with sp := 0xFD#8 } =
    some ⟨0x00#8, 0xFD#8, 0x00#8, 0xFD#8, 0x8001#16, 0xA4#8, 1, false, false, [.r 0x8000#16]⟩ := by decide

/-- Vector V033: TXS. -/
theorem test_V033 :
    runBoth [0x9A#8] []
      { blank with x := 0x00#8, p := 0xA4#8 } =
    some ⟨0x00#8, 0x00#8, 0x00#8, 0x00#8, 0x8001#16, 0xA4#8, 1, false, false, [.r 0x8000#16]⟩ := by decide

/-- Vector V035: PHA wrap. -/
theorem test_V035 :
    runBoth [0x48#8] []
      { blank with a := 0x42#8, sp := 0x00#8 } =
    some ⟨0x42#8, 0x00#8, 0x00#8, 0xFF#8, 0x8001#16, 0x24#8, 2, false, false, [.r 0x8000#16, .w 0x0100#16 0x42#8]⟩ := by decide

/-- Vector V036: PHP. -/
theorem test_V036 :
    runBoth [0x08#8] []
      { blank with p := 0x24#8 } =
    some ⟨0x00#8, 0x00#8, 0x00#8, 0xFC#8, 0x8001#16, 0x24#8, 2, false, false, [.r 0x8000#16, .w 0x01FD#16 0x34#8]⟩ := by decide

/-- Vector V039: PLA wrap. -/
theorem test_V039 :
    runBoth [0x68#8] [(0x0100#16, 0x80#8), (0x0200#16, 0x01#8)]
      { blank with sp := 0xFF#8 } =
    some ⟨0x80#8, 0x00#8, 0x00#8, 0x00#8, 0x8001#16, 0xA4#8, 3, false, false, [.r 0x8000#16, .r 0x0100#16]⟩ := by decide

/-- Vector V040: PLP. -/
theorem test_V040 :
    runBoth [0x28#8] [(0x01FD#16, 0xFF#8)]
      { blank with sp := 0xFC#8 } =
    some ⟨0x00#8, 0x00#8, 0x00#8, 0xFD#8, 0x8001#16, 0xEF#8, 3, false, false, [.r 0x8000#16, .r 0x01FD#16]⟩ := by decide

/-- Vector V043': PHX. -/
theorem test_V043w :
    run1 .wdc65c02 [0xDA#8] []
      { blank with x := 0x10#8, sp := 0xFF#8 } =
    some ⟨0x00#8, 0x10#8, 0x00#8, 0xFE#8, 0x8001#16, 0x24#8, 2, false, false, [.r 0x8000#16, .w 0x01FF#16 0x10#8]⟩ := by decide

/-- Vector V044': PHY. -/
theorem test_V044w :
    run1 .wdc65c02 [0x5A#8] []
      { blank with y := 0x00#8, sp := 0x80#8 } =
    some ⟨0x00#8, 0x00#8, 0x00#8, 0x7F#8, 0x8001#16, 0x24#8, 2, false, false, [.r 0x8000#16, .w 0x0180#16 0x00#8]⟩ := by decide

/-- Vector V045': PLX. -/
theorem test_V045w :
    run1 .wdc65c02 [0xFA#8] [(0x01FF#16, 0x90#8)]
      { blank with sp := 0xFE#8 } =
    some ⟨0x00#8, 0x90#8, 0x00#8, 0xFF#8, 0x8001#16, 0xA4#8, 3, false, false, [.r 0x8000#16, .r 0x01FF#16]⟩ := by decide

/-- Vector V046': PLY. -/
theorem test_V046w :
    run1 .wdc65c02 [0x7A#8] [(0x0180#16, 0x00#8)]
      { blank with sp := 0x7F#8 } =
    some ⟨0x00#8, 0x00#8, 0x00#8, 0x80#8, 0x8001#16, 0x26#8, 3, false, false, [.r 0x8000#16, .r 0x0180#16]⟩ := by decide

/-- Vector V047: ADC #. -/
theorem test_V047 :
    runBoth [0x69#8, 0x50#8] []
      { blank with a := 0x50#8, p := 0x24#8 } =
    some ⟨0xA0#8, 0x00#8, 0x00#8, 0xFD#8, 0x8002#16, 0xE4#8, 1, false, false, [.r 0x8000#16, .r 0x8001#16]⟩ := by decide

/-- Vector V058: ADC # with D=1 (binary). -/
theorem test_V058 :
    runBoth [0x69#8, 0x99#8] []
      { blank with a := 0x99#8, p := 0x2D#8 } =
    some ⟨0x33#8, 0x00#8, 0x00#8, 0xFD#8, 0x8002#16, 0x6D#8, 1, false, false, [.r 0x8000#16, .r 0x8001#16]⟩ := by decide

/-- Vector V062: SBC #. -/
theorem test_V062 :
    runBoth [0xE9#8, 0x01#8] []
      { blank with a := 0x00#8, p := 0x25#8 } =
    some ⟨0xFF#8, 0x00#8, 0x00#8, 0xFD#8, 0x8002#16, 0xA4#8, 1, false, false, [.r 0x8000#16, .r 0x8001#16]⟩ := by decide

/-- Vector V071: SBC abs,X cross. -/
theorem test_V071 :
    runBoth [0xFD#8, 0xFF#8, 0x20#8] [(0x2100#16, 0x03#8)]
      { blank with a := 0x05#8, x := 0x01#8, p := 0x25#8 } =
    some ⟨0x02#8, 0x01#8, 0x00#8, 0xFD#8, 0x8003#16, 0x25#8, 4, false, false, [.r 0x8000#16, .r 0x8001#16, .r 0x8002#16, .r 0x2100#16]⟩ := by decide

/-- Vector V073: CMP #. -/
theorem test_V073 :
    runBoth [0xC9#8, 0x01#8] []
      { blank with a := 0x00#8, p := 0x64#8 } =
    some ⟨0x00#8, 0x00#8, 0x00#8, 0xFD#8, 0x8002#16, 0xE4#8, 1, false, false, [.r 0x8000#16, .r 0x8001#16]⟩ := by decide

/-- Vector V078: CMP (zp),Y cross. -/
theorem test_V078 :
    runBoth [0xD1#8, 0x30#8] [(0x0030#16, 0x01#8), (0x0031#16, 0x20#8), (0x2100#16, 0x10#8)]
      { blank with a := 0x10#8, y := 0xFF#8 } =
    some ⟨0x10#8, 0x00#8, 0xFF#8, 0xFD#8, 0x8002#16, 0x27#8, 5, false, false, [.r 0x8000#16, .r 0x8001#16, .r 0x0030#16, .r 0x0031#16, .r 0x2100#16]⟩ := by decide

/-- Vector V079: CPX #. -/
theorem test_V079 :
    runBoth [0xE0#8, 0x0A#8] []
      { blank with x := 0x05#8 } =
    some ⟨0x00#8, 0x05#8, 0x00#8, 0xFD#8, 0x8002#16, 0xA4#8, 1, false, false, [.r 0x8000#16, .r 0x8001#16]⟩ := by decide

/-- Vector V082: CPY abs. -/
theorem test_V082 :
    runBoth [0xCC#8, 0x00#8, 0x03#8] [(0x0300#16, 0x80#8)]
      { blank with y := 0x00#8 } =
    some ⟨0x00#8, 0x00#8, 0x00#8, 0xFD#8, 0x8003#16, 0xA4#8, 3, false, false, [.r 0x8000#16, .r 0x8001#16, .r 0x8002#16, .r 0x0300#16]⟩ := by decide

/-- Vector V083: INC zp. -/
theorem test_V083 :
    runBoth [0xE6#8, 0x10#8] [(0x0010#16, 0xFF#8)]
      { blank with p := 0x25#8 } =
    some ⟨0x00#8, 0x00#8, 0x00#8, 0xFD#8, 0x8002#16, 0x27#8, 4, false, false, [.r 0x8000#16, .r 0x8001#16, .r 0x0010#16, .w 0x0010#16 0x00#8]⟩ := by decide

/-- Vector V085: INC abs,X cross. -/
theorem test_V085 :
    runBoth [0xFE#8, 0xFF#8, 0x10#8] [(0x1100#16, 0x41#8)]
      { blank with x := 0x01#8 } =
    some ⟨0x00#8, 0x01#8, 0x00#8, 0xFD#8, 0x8003#16, 0x24#8, 6, false, false, [.r 0x8000#16, .r 0x8001#16, .r 0x8002#16, .r 0x1100#16, .w 0x1100#16 0x42#8]⟩ := by decide

/-- Vector V087: DEC zp,X. -/
theorem test_V087 :
    runBoth [0xD6#8, 0xF0#8] [(0x0010#16, 0x00#8)]
      { blank with x := 0x20#8 } =
    some ⟨0x00#8, 0x20#8, 0x00#8, 0xFD#8, 0x8002#16, 0xA4#8, 5, false, false, [.r 0x8000#16, .r 0x8001#16, .r 0x0010#16, .w 0x0010#16 0xFF#8]⟩ := by decide

/-- Vector V088: INX. -/
theorem test_V088 :
    runBoth [0xE8#8] []
      { blank with x := 0xFF#8 } =
    some ⟨0x00#8, 0x00#8, 0x00#8, 0xFD#8, 0x8001#16, 0x26#8, 1, false, false, [.r 0x8000#16]⟩ := by decide

/-- Vector V090: DEX. -/
theorem test_V090 :
    runBoth [0xCA#8] []
      { blank with x := 0x00#8 } =
    some ⟨0x00#8, 0xFF#8, 0x00#8, 0xFD#8, 0x8001#16, 0xA4#8, 1, false, false, [.r 0x8000#16]⟩ := by decide

/-- Vector V091: INY. -/
theorem test_V091 :
    runBoth [0xC8#8] []
      { blank with y := 0x7F#8 } =
    some ⟨0x00#8, 0x00#8, 0x80#8, 0xFD#8, 0x8001#16, 0xA4#8, 1, false, false, [.r 0x8000#16]⟩ := by decide

/-- Vector V092: DEY. -/
theorem test_V092 :
    runBoth [0x88#8] []
      { blank with y := 0x00#8 } =
    some ⟨0x00#8, 0x00#8, 0xFF#8, 0xFD#8, 0x8001#16, 0xA4#8, 1, false, false, [.r 0x8000#16]⟩ := by decide

/-- Vector V093': INC A. -/
theorem test_V093w :
    run1 .wdc65c02 [0x1A#8] []
      { blank with a := 0xFF#8, p := 0x25#8 } =
    some ⟨0x00#8, 0x00#8, 0x00#8, 0xFD#8, 0x8001#16, 0x27#8, 1, false, false, [.r 0x8000#16]⟩ := by decide

/-- Vector V094': DEC A. -/
theorem test_V094w :
    run1 .wdc65c02 [0x3A#8] []
      { blank with a := 0x00#8 } =
    some ⟨0xFF#8, 0x00#8, 0x00#8, 0xFD#8, 0x8001#16, 0xA4#8, 1, false, false, [.r 0x8000#16]⟩ := by decide

/-- Vector V098: ASL abs,X. -/
theorem test_V098 :
    run1 .nmos [0x1E#8, 0x00#8, 0x20#8] [(0x2001#16, 0x01#8)]
      { blank with x := 0x01#8 } =
    some ⟨0x00#8, 0x01#8, 0x00#8, 0xFD#8, 0x8003#16, 0x24#8, 6, false, false, [.r 0x8000#16, .r 0x8001#16, .r 0x8002#16, .r 0x2001#16, .w 0x2001#16 0x02#8]⟩ := by decide

/-- Vector V099: ASL abs,X cross. -/
theorem test_V099 :
    runBoth [0x1E#8, 0xFF#8, 0x20#8] [(0x2100#16, 0xC0#8)]
      { blank with x := 0x01#8 } =
    some ⟨0x00#8, 0x01#8, 0x00#8, 0xFD#8, 0x8003#16, 0xA5#8, 6, false, false, [.r 0x8000#16, .r 0x8001#16, .r 0x8002#16, .r 0x2100#16, .w 0x2100#16 0x80#8]⟩ := by decide

/-- Vector V102: LSR abs,X cross. -/
theorem test_V102 :
    runBoth [0x5E#8, 0xFF#8, 0x20#8] [(0x2100#16, 0xFF#8)]
      { blank with x := 0x01#8 } =
    some ⟨0x00#8, 0x01#8, 0x00#8, 0xFD#8, 0x8003#16, 0x25#8, 6, false, false, [.r 0x8000#16, .r 0x8001#16, .r 0x8002#16, .r 0x2100#16, .w 0x2100#16 0x7F#8]⟩ := by decide

/-- Vector V104: ROL A. -/
theorem test_V104 :
    runBoth [0x2A#8] []
      { blank with a := 0x55#8, p := 0x25#8 } =
    some ⟨0xAB#8, 0x00#8, 0x00#8, 0xFD#8, 0x8001#16, 0xA4#8, 1, false, false, [.r 0x8000#16]⟩ := by decide

/-- Vector V106: ROL zp,X. -/
theorem test_V106 :
    runBoth [0x36#8, 0x10#8] [(0x0011#16, 0x7F#8)]
      { blank with x := 0x01#8, p := 0x25#8 } =
    some ⟨0x00#8, 0x01#8, 0x00#8, 0xFD#8, 0x8002#16, 0xA4#8, 5, false, false, [.r 0x8000#16, .r 0x8001#16, .r 0x0011#16, .w 0x0011#16 0xFF#8]⟩ := by decide

/-- Vector V107: ROR A. -/
theorem test_V107 :
    runBoth [0x6A#8] []
      { blank with a := 0x01#8, p := 0x24#8 } =
    some ⟨0x00#8, 0x00#8, 0x00#8, 0xFD#8, 0x8001#16, 0x27#8, 1, false, false, [.r 0x8000#16]⟩ := by decide

/-- Vector V111': ROR abs,X. -/
theorem test_V111w :
    run1 .wdc65c02 [0x7E#8, 0x00#8, 0x03#8] [(0x0310#16, 0x01#8)]
      { blank with x := 0x10#8, p := 0x24#8 } =
    some ⟨0x00#8, 0x10#8, 0x00#8, 0xFD#8, 0x8003#16, 0x27#8, 5, false, false, [.r 0x8000#16, .r 0x8001#16, .r 0x8002#16, .r 0x0310#16, .w 0x0310#16 0x00#8]⟩ := by decide

/-- Vector V112: AND #. -/
theorem test_V112 :
    runBoth [0x29#8, 0x3C#8] []
      { blank with a := 0xF0#8 } =
    some ⟨0x30#8, 0x00#8, 0x00#8, 0xFD#8, 0x8002#16, 0x24#8, 1, false, false, [.r 0x8000#16, .r 0x8001#16]⟩ := by decide

/-- Vector V116: ORA #. -/
theorem test_V116 :
    runBoth [0x09#8, 0x00#8] []
      { blank with a := 0x00#8 } =
    some ⟨0x00#8, 0x00#8, 0x00#8, 0xFD#8, 0x8002#16, 0x26#8, 1, false, false, [.r 0x8000#16, .r 0x8001#16]⟩ := by decide

/-- Vector V118: EOR #. -/
theorem test_V118 :
    runBoth [0x49#8, 0xFF#8] []
      { blank with a := 0xAA#8 } =
    some ⟨0x55#8, 0x00#8, 0x00#8, 0xFD#8, 0x8002#16, 0x24#8, 1, false, false, [.r 0x8000#16, .r 0x8001#16]⟩ := by decide

/-- Vector V120': EOR (zp). -/
theorem test_V120w :
    run1 .wdc65c02 [0x52#8, 0x10#8] [(0x0010#16, 0x34#8), (0x0011#16, 0x12#8), (0x1234#16, 0xF0#8)]
      { blank with a := 0x0F#8 } =
    some ⟨0xFF#8, 0x00#8, 0x00#8, 0xFD#8, 0x8002#16, 0xA4#8, 4, false, false, [.r 0x8000#16, .r 0x8001#16, .r 0x0010#16, .r 0x0011#16, .r 0x1234#16]⟩ := by decide

/-- Vector V122: BIT zp. -/
theorem test_V122 :
    runBoth [0x24#8, 0x10#8] [(0x0010#16, 0xC0#8)]
      { blank with a := 0x3F#8 } =
    some ⟨0x3F#8, 0x00#8, 0x00#8, 0xFD#8, 0x8002#16, 0xE6#8, 2, false, false, [.r 0x8000#16, .r 0x8001#16, .r 0x0010#16]⟩ := by decide

/-- Vector V126': BIT #. -/
theorem test_V126w :
    run1 .wdc65c02 [0x89#8, 0x00#8] []
      { blank with a := 0xFF#8, p := 0xE4#8 } =
    some ⟨0xFF#8, 0x00#8, 0x00#8, 0xFD#8, 0x8002#16, 0xE6#8, 1, false, false, [.r 0x8000#16, .r 0x8001#16]⟩ := by decide

/-- Vector V128': BIT abs,X cross. -/
theorem test_V128w :
    run1 .wdc65c02 [0x3C#8, 0xFF#8, 0x20#8] [(0x2100#16, 0x40#8)]
      { blank with a := 0x40#8, x := 0x01#8 } =
    some ⟨0x40#8, 0x01#8, 0x00#8, 0xFD#8, 0x8003#16, 0x64#8, 4, false, false, [.r 0x8000#16, .r 0x8001#16, .r 0x8002#16, .r 0x2100#16]⟩ := by decide

/-- Vector V130': TSB abs. -/
theorem test_V130w :
    run1 .wdc65c02 [0x0C#8, 0x00#8, 0x03#8] [(0x0300#16, 0x81#8)]
      { blank with a := 0x00#8, p := 0xA4#8 } =
    some ⟨0x00#8, 0x00#8, 0x00#8, 0xFD#8, 0x8003#16, 0xA6#8, 5, false, false, [.r 0x8000#16, .r 0x8001#16, .r 0x8002#16, .r 0x0300#16, .w 0x0300#16 0x81#8]⟩ := by decide

/-- Vector V131': TRB zp. -/
theorem test_V131w :
    run1 .wdc65c02 [0x14#8, 0x10#8] [(0x0010#16, 0xFF#8)]
      { blank with a := 0x0F#8 } =
    some ⟨0x0F#8, 0x00#8, 0x00#8, 0xFD#8, 0x8002#16, 0x24#8, 4, false, false, [.r 0x8000#16, .r 0x8001#16, .r 0x0010#16, .w 0x0010#16 0xF0#8]⟩ := by decide

/-- Vector V133: JMP abs. -/
theorem test_V133 :
    runBoth [0x4C#8, 0x34#8, 0x12#8] []
      blank =
    some ⟨0x00#8, 0x00#8, 0x00#8, 0xFD#8, 0x1234#16, 0x24#8, 2, false, false, [.r 0x8000#16, .r 0x8001#16, .r 0x8002#16]⟩ := by decide

/-- Vector V135: JMP (abs) at xxFF. -/
theorem test_V135 :
    run1 .nmos [0x6C#8, 0xFF#8, 0x10#8] [(0x1000#16, 0x12#8), (0x10FF#16, 0x34#8), (0x1100#16, 0x56#8)]
      blank =
    some ⟨0x00#8, 0x00#8, 0x00#8, 0xFD#8, 0x1234#16, 0x24#8, 4, false, false, [.r 0x8000#16, .r 0x8001#16, .r 0x8002#16, .r 0x10FF#16, .r 0x1000#16]⟩ := by decide

/-- Vector V135': JMP (abs) at xxFF. -/
theorem test_V135w :
    run1 .wdc65c02 [0x6C#8, 0xFF#8, 0x10#8] [(0x1000#16, 0x12#8), (0x10FF#16, 0x34#8), (0x1100#16, 0x56#8)]
      blank =
    some ⟨0x00#8, 0x00#8, 0x00#8, 0xFD#8, 0x5634#16, 0x24#8, 5, false, false, [.r 0x8000#16, .r 0x8001#16, .r 0x8002#16, .r 0x10FF#16, .r 0x1100#16]⟩ := by decide

/-- Vector V137': JMP (abs,X). -/
theorem test_V137w :
    run1 .wdc65c02 [0x7C#8, 0xFF#8, 0x20#8] [(0x2000#16, 0x70#8), (0x20FF#16, 0x00#8), (0x2100#16, 0x90#8)]
      { blank with x := 0x00#8 } =
    some ⟨0x00#8, 0x00#8, 0x00#8, 0xFD#8, 0x9000#16, 0x24#8, 5, false, false, [.r 0x8000#16, .r 0x8001#16, .r 0x8002#16, .r 0x20FF#16, .r 0x2100#16]⟩ := by decide

/-- Vector V139: JSR wrap. -/
theorem test_V139 :
    runBoth [0x20#8, 0x00#8, 0x90#8] []
      { blank with sp := 0x00#8 } =
    some ⟨0x00#8, 0x00#8, 0x00#8, 0xFE#8, 0x9000#16, 0x24#8, 5, false, false, [.r 0x8000#16, .r 0x8001#16, .r 0x8002#16, .w 0x0100#16 0x80#8, .w 0x01FF#16 0x02#8]⟩ := by decide

/-- Vector V140: JSR at FFFD. -/
theorem test_V140 :
    runBoth [0x20#8, 0x00#8, 0x90#8] []
      { blank with pc := 0xFFFD#16 } =
    some ⟨0x00#8, 0x00#8, 0x00#8, 0xFB#8, 0x9000#16, 0x24#8, 5, false, false, [.r 0xFFFD#16, .r 0xFFFE#16, .r 0xFFFF#16, .w 0x01FD#16 0xFF#8, .w 0x01FC#16 0xFF#8]⟩ := by decide

/-- Vector V142: RTS to 0000. -/
theorem test_V142 :
    runBoth [0x60#8] [(0x01FC#16, 0xFF#8), (0x01FD#16, 0xFF#8)]
      { blank with sp := 0xFB#8 } =
    some ⟨0x00#8, 0x00#8, 0x00#8, 0xFD#8, 0x0000#16, 0x24#8, 5, false, false, [.r 0x8000#16, .r 0x01FC#16, .r 0x01FD#16]⟩ := by decide

/-- Vector V144: RTI. -/
theorem test_V144 :
    runBoth [0x40#8] [(0x01FB#16, 0xDF#8), (0x01FC#16, 0x00#8), (0x01FD#16, 0x00#8)]
      { blank with pc := 0x9000#16, sp := 0xFA#8, p := 0x24#8 } =
    some ⟨0x00#8, 0x00#8, 0x00#8, 0xFD#8, 0x0000#16, 0xEF#8, 5, false, false, [.r 0x9000#16, .r 0x01FB#16, .r 0x01FC#16, .r 0x01FD#16]⟩ := by decide

/-- Vector V146: BRK with D=1, I=0. -/
theorem test_V146 :
    run1 .nmos [0x00#8, 0xEE#8] [(0xFFFE#16, 0x00#8), (0xFFFF#16, 0x90#8)]
      { blank with p := 0xE9#8 } =
    some ⟨0x00#8, 0x00#8, 0x00#8, 0xFA#8, 0x9000#16, 0xED#8, 6, false, false, [.r 0x8000#16, .w 0x01FD#16 0x80#8, .w 0x01FC#16 0x02#8, .w 0x01FB#16 0xF9#8, .r 0xFFFE#16, .r 0xFFFF#16]⟩ := by decide

/-- Vector V146': BRK with D=1, I=0. -/
theorem test_V146w :
    run1 .wdc65c02 [0x00#8, 0xEE#8] [(0xFFFE#16, 0x00#8), (0xFFFF#16, 0x90#8)]
      { blank with p := 0xE9#8 } =
    some ⟨0x00#8, 0x00#8, 0x00#8, 0xFA#8, 0x9000#16, 0xE5#8, 6, false, false, [.r 0x8000#16, .w 0x01FD#16 0x80#8, .w 0x01FC#16 0x02#8, .w 0x01FB#16 0xF9#8, .r 0xFFFE#16, .r 0xFFFF#16]⟩ := by decide

/-- Vector V147: BCC taken. -/
theorem test_V147 :
    runBoth [0x90#8, 0x05#8] []
      { blank with p := 0x24#8 } =
    some ⟨0x00#8, 0x00#8, 0x00#8, 0xFD#8, 0x8007#16, 0x24#8, 2, false, false, [.r 0x8000#16, .r 0x8001#16]⟩ := by decide

/-- Vector V149: BCS taken. -/
theorem test_V149 :
    runBoth [0xB0#8, 0x7F#8] []
      { blank with p := 0x25#8 } =
    some ⟨0x00#8, 0x00#8, 0x00#8, 0xFD#8, 0x8081#16, 0x25#8, 2, false, false, [.r 0x8000#16, .r 0x8001#16]⟩ := by decide

/-- Vector V150: BEQ self. -/
theorem test_V150 :
    runBoth [0xF0#8, 0xFE#8] []
      { blank with p := 0x26#8 } =
    some ⟨0x00#8, 0x00#8, 0x00#8, 0xFD#8, 0x8000#16, 0x26#8, 2, false, false, [.r 0x8000#16, .r 0x8001#16]⟩ := by decide

/-- Vector V151: BNE back cross. -/
theorem test_V151 :
    runBoth [0xD0#8, 0xFD#8] []
      { blank with pc := 0x8100#16, p := 0x24#8 } =
    some ⟨0x00#8, 0x00#8, 0x00#8, 0xFD#8, 0x80FF#16, 0x24#8, 3, false, false, [.r 0x8100#16, .r 0x8101#16]⟩ := by decide

/-- Vector V153: BMI -128. -/
theorem test_V153 :
    runBoth [0x30#8, 0x80#8] []
      { blank with p := 0xA4#8 } =
    some ⟨0x00#8, 0x00#8, 0x00#8, 0xFD#8, 0x7F82#16, 0xA4#8, 3, false, false, [.r 0x8000#16, .r 0x8001#16]⟩ := by decide

/-- Vector V154: BPL fwd cross. -/
theorem test_V154 :
    runBoth [0x10#8, 0x7F#8] []
      { blank with pc := 0x80F0#16, p := 0x24#8 } =
    some ⟨0x00#8, 0x00#8, 0x00#8, 0xFD#8, 0x8171#16, 0x24#8, 3, false, false, [.r 0x80F0#16, .r 0x80F1#16]⟩ := by decide

/-- Vector V155: BVC taken. -/
theorem test_V155 :
    runBoth [0x50#8, 0x00#8] []
      { blank with p := 0x24#8 } =
    some ⟨0x00#8, 0x00#8, 0x00#8, 0xFD#8, 0x8002#16, 0x24#8, 2, false, false, [.r 0x8000#16, .r 0x8001#16]⟩ := by decide

/-- Vector V157: BVS not taken. -/
theorem test_V157 :
    runBoth [0x70#8, 0x10#8] []
      { blank with p := 0x24#8 } =
    some ⟨0x00#8, 0x00#8, 0x00#8, 0xFD#8, 0x8002#16, 0x24#8, 1, false, false, [.r 0x8000#16, .r 0x8001#16]⟩ := by decide

/-- Vector V158: BCC wrap 64K. -/
theorem test_V158 :
    runBoth [0x90#8, 0x10#8] []
      { blank with pc := 0xFFF0#16, p := 0x24#8 } =
    some ⟨0x00#8, 0x00#8, 0x00#8, 0xFD#8, 0x0002#16, 0x24#8, 3, false, false, [.r 0xFFF0#16, .r 0xFFF1#16]⟩ := by decide

/-- Vector V159': BRA. -/
theorem test_V159w :
    run1 .wdc65c02 [0x80#8, 0x10#8] []
      blank =
    some ⟨0x00#8, 0x00#8, 0x00#8, 0xFD#8, 0x8012#16, 0x24#8, 2, false, false, [.r 0x8000#16, .r 0x8001#16]⟩ := by decide

/-- Vector V160': BRA cross. -/
theorem test_V160w :
    run1 .wdc65c02 [0x80#8, 0x80#8] []
      blank =
    some ⟨0x00#8, 0x00#8, 0x00#8, 0xFD#8, 0x7F82#16, 0x24#8, 3, false, false, [.r 0x8000#16, .r 0x8001#16]⟩ := by decide

/-- Vector V161: CLC. -/
theorem test_V161 :
    runBoth [0x18#8] []
      { blank with p := 0x25#8 } =
    some ⟨0x00#8, 0x00#8, 0x00#8, 0xFD#8, 0x8001#16, 0x24#8, 1, false, false, [.r 0x8000#16]⟩ := by decide

/-- Vector V162: SEC. -/
theorem test_V162 :
    runBoth [0x38#8] []
      { blank with p := 0x24#8 } =
    some ⟨0x00#8, 0x00#8, 0x00#8, 0xFD#8, 0x8001#16, 0x25#8, 1, false, false, [.r 0x8000#16]⟩ := by decide

/-- Vector V163: CLI. -/
theorem test_V163 :
    runBoth [0x58#8] []
      { blank with p := 0x24#8 } =
    some ⟨0x00#8, 0x00#8, 0x00#8, 0xFD#8, 0x8001#16, 0x20#8, 1, false, false, [.r 0x8000#16]⟩ := by decide

/-- Vector V164: SEI. -/
theorem test_V164 :
    runBoth [0x78#8] []
      { blank with p := 0x20#8 } =
    some ⟨0x00#8, 0x00#8, 0x00#8, 0xFD#8, 0x8001#16, 0x24#8, 1, false, false, [.r 0x8000#16]⟩ := by decide

/-- Vector V165: CLD. -/
theorem test_V165 :
    runBoth [0xD8#8] []
      { blank with p := 0x2C#8 } =
    some ⟨0x00#8, 0x00#8, 0x00#8, 0xFD#8, 0x8001#16, 0x24#8, 1, false, false, [.r 0x8000#16]⟩ := by decide

/-- Vector V166: SED. -/
theorem test_V166 :
    runBoth [0xF8#8] []
      { blank with p := 0x24#8 } =
    some ⟨0x00#8, 0x00#8, 0x00#8, 0xFD#8, 0x8001#16, 0x2C#8, 1, false, false, [.r 0x8000#16]⟩ := by decide

/-- Vector V167: CLV. -/
theorem test_V167 :
    runBoth [0xB8#8] []
      { blank with p := 0x64#8 } =
    some ⟨0x00#8, 0x00#8, 0x00#8, 0xFD#8, 0x8001#16, 0x24#8, 1, false, false, [.r 0x8000#16]⟩ := by decide

/-- Vector V168: NOP. -/
theorem test_V168 :
    runBoth [0xEA#8] []
      { blank with p := 0xE7#8, a := 0x01#8, x := 0x02#8, y := 0x03#8 } =
    some ⟨0x01#8, 0x02#8, 0x03#8, 0xFD#8, 0x8001#16, 0xE7#8, 1, false, false, [.r 0x8000#16]⟩ := by decide

/-- Vector V169': RMB3. -/
theorem test_V169w :
    run1 .wdc65c02 [0x37#8, 0x10#8] [(0x0010#16, 0xFF#8)]
      blank =
    some ⟨0x00#8, 0x00#8, 0x00#8, 0xFD#8, 0x8002#16, 0x24#8, 4, false, false, [.r 0x8000#16, .r 0x8001#16, .r 0x0010#16, .w 0x0010#16 0xF7#8]⟩ := by decide

/-- Vector V171': SMB7. -/
theorem test_V171w :
    run1 .wdc65c02 [0xF7#8, 0x10#8] [(0x0010#16, 0x00#8)]
      blank =
    some ⟨0x00#8, 0x00#8, 0x00#8, 0xFD#8, 0x8002#16, 0x24#8, 4, false, false, [.r 0x8000#16, .r 0x8001#16, .r 0x0010#16, .w 0x0010#16 0x80#8]⟩ := by decide

/-- Vector V173': BBR0 taken. -/
theorem test_V173w :
    run1 .wdc65c02 [0x0F#8, 0x10#8, 0x0D#8] [(0x0010#16, 0xFE#8)]
      blank =
    some ⟨0x00#8, 0x00#8, 0x00#8, 0xFD#8, 0x8010#16, 0x24#8, 5, false, false, [.r 0x8000#16, .r 0x8001#16, .r 0x8002#16, .r 0x0010#16]⟩ := by decide

/-- Vector V176': BBS3 cross. -/
theorem test_V176w :
    run1 .wdc65c02 [0xBF#8, 0x20#8, 0x7F#8] [(0x0020#16, 0x08#8)]
      { blank with pc := 0x80F0#16 } =
    some ⟨0x00#8, 0x00#8, 0x00#8, 0xFD#8, 0x8172#16, 0x24#8, 6, false, false, [.r 0x80F0#16, .r 0x80F1#16, .r 0x80F2#16, .r 0x0020#16]⟩ := by decide

/-- Vector V178': WAI. -/
theorem test_V178w :
    run1 .wdc65c02 [0xCB#8] []
      blank =
    some ⟨0x00#8, 0x00#8, 0x00#8, 0xFD#8, 0x8001#16, 0x24#8, 2, false, true, [.r 0x8000#16]⟩ := by decide

/-- Vector V179': STP. -/
theorem test_V179w :
    run1 .wdc65c02 [0xDB#8] []
      blank =
    some ⟨0x00#8, 0x00#8, 0x00#8, 0xFD#8, 0x8001#16, 0x24#8, 2, true, false, [.r 0x8000#16]⟩ := by decide

/-- Vector V180: opcode 02. -/
theorem test_V180 :
    run1 .nmos [0x02#8, 0x55#8] []
      blank =
    some ⟨0x00#8, 0x00#8, 0x00#8, 0xFD#8, 0x8001#16, 0x24#8, 0, true, false, [.r 0x8000#16]⟩ := by decide

/-- Vector V182': opcode 44. -/
theorem test_V182w :
    run1 .wdc65c02 [0x44#8, 0x10#8] [(0x0010#16, 0x99#8)]
      blank =
    some ⟨0x00#8, 0x00#8, 0x00#8, 0xFD#8, 0x8002#16, 0x24#8, 2, false, false, [.r 0x8000#16, .r 0x8001#16]⟩ := by decide

/-- Vector V184': opcode 5C. -/
theorem test_V184w :
    run1 .wdc65c02 [0x5C#8, 0x00#8, 0x10#8] []
      blank =
    some ⟨0x00#8, 0x00#8, 0x00#8, 0xFD#8, 0x8003#16, 0x24#8, 7, false, false, [.r 0x8000#16, .r 0x8001#16, .r 0x8002#16]⟩ := by decide

/-! ### The driver: the rows of 95_test_vectors.md section 3 -/

/-- Vector I1: NMI entry; D kept on NMOS, cleared on WDC65C02. -/
theorem test_I1 :
    callStep [] { blank with pc := 0x8002#16, p := 0x28#8, nmiPending := true, variant := .nmos } =
    some (⟨0x00#8, 0x00#8, 0x00#8, 0xFA#8, 0xA000#16, 0x2C#8, 6, false, false, [.w 0x01FD#16 0x80#8, .w 0x01FC#16 0x02#8, .w 0x01FB#16 0x28#8, .r 0xFFFA#16, .r 0xFFFB#16]⟩, false, false, false) := by decide

/-- Vector I1': NMI entry; D kept on NMOS, cleared on WDC65C02. -/
theorem test_I1w :
    callStep [] { blank with pc := 0x8002#16, p := 0x28#8, nmiPending := true, variant := .wdc65c02 } =
    some (⟨0x00#8, 0x00#8, 0x00#8, 0xFA#8, 0xA000#16, 0x24#8, 6, false, false, [.w 0x01FD#16 0x80#8, .w 0x01FC#16 0x02#8, .w 0x01FB#16 0x28#8, .r 0xFFFA#16, .r 0xFFFB#16]⟩, false, false, false) := by decide

/-- Vector I3': IRQ entry (source scenario 6). -/
theorem test_I3w :
    callStep [] { blank with pc := 0x8002#16, p := 0x28#8, irqPending := true, variant := .wdc65c02 } =
    some (⟨0x00#8, 0x00#8, 0x00#8, 0xFA#8, 0x9000#16, 0x24#8, 6, false, false, [.w 0x01FD#16 0x80#8, .w 0x01FC#16 0x02#8, .w 0x01FB#16 0x28#8, .r 0xFFFE#16, .r 0xFFFF#16]⟩, false, false, false) := by decide

/-- Vector I4: IRQ masked (I = 1): the instruction at PC (EA, NOP) is dispatched; request stays. -/
theorem test_I4 :
    callStep [(0x8002#16, 0xEA#8)] { blank with pc := 0x8002#16, p := 0x24#8, irqPending := true, variant := .wdc65c02 } =
    some (⟨0x00#8, 0x00#8, 0x00#8, 0xFD#8, 0x8003#16, 0x24#8, 1, false, false, [.r 0x8002#16]⟩, false, false, true) := by decide

/-- Vector I5: budget not 0: decrement only, no sampling. -/
theorem test_I5 :
    callStep [] { blank with pc := 0x8002#16, p := 0x20#8, cycles := 3, irqPending := true, variant := .wdc65c02 } =
    some (⟨0x00#8, 0x00#8, 0x00#8, 0xFD#8, 0x8002#16, 0x20#8, 2, false, false, []⟩, false, false, true) := by decide

/-- Vector I6: NMI before IRQ; IRQ stays pending (and is now masked by I = 1). -/
theorem test_I6 :
    callStep [] { blank with pc := 0x8002#16, p := 0x20#8, nmiPending := true, irqPending := true, variant := .wdc65c02 } =
    some (⟨0x00#8, 0x00#8, 0x00#8, 0xFA#8, 0xA000#16, 0x24#8, 6, false, false, [.w 0x01FD#16 0x80#8, .w 0x01FC#16 0x02#8, .w 0x01FB#16 0x20#8, .r 0xFFFA#16, .r 0xFFFB#16]⟩, false, false, true) := by decide

/-- Vector I7': reset before NMI and IRQ; both stay pending; C, Z, V, N kept. -/
theorem test_I7w :
    callStep [] { blank with pc := 0x1234#16, a := 0x11#8, x := 0x22#8, y := 0x33#8, sp := 0x40#8, p := 0xEB#8, resetPending := true, nmiPending := true, irqPending := true, variant := .wdc65c02 } =
    some (⟨0x00#8, 0x00#8, 0x00#8, 0xFD#8, 0x8000#16, 0xE7#8, 6, false, false, [.r 0xFFFC#16, .r 0xFFFD#16]⟩, false, true, true) := by decide

/-- Vector I8: stack wrap during entry: pushes at 0101, 0100, 01FF. -/
theorem test_I8 :
    callStep [] { blank with pc := 0xC0DE#16, sp := 0x01#8, p := 0xA1#8, nmiPending := true, variant := .wdc65c02 } =
    some (⟨0x00#8, 0x00#8, 0x00#8, 0xFE#8, 0xA000#16, 0xA5#8, 6, false, false, [.w 0x0101#16 0xC0#8, .w 0x0100#16 0xDE#8, .w 0x01FF#16 0xA1#8, .r 0xFFFA#16, .r 0xFFFB#16]⟩, false, false, false) := by decide

/-- Vector I9': direct reset: budget overwritten, no decrement; clears ResetPending and Halted; keeps NMIPending, IRQPending. -/
theorem test_I9w :
    callReset [] { blank with pc := 0x1234#16, a := 0x11#8, x := 0x22#8, y := 0x33#8, sp := 0x40#8, p := 0xEB#8, cycles := 5, resetPending := true, nmiPending := true, irqPending := true, halted := true, variant := .wdc65c02 } =
    some (⟨0x00#8, 0x00#8, 0x00#8, 0xFD#8, 0x8000#16, 0xE7#8, 7, false, false, [.r 0xFFFC#16, .r 0xFFFD#16]⟩, false, true, true) := by decide

/-- Vector I11: halted with budget left (after STP): reset serviced anyway, then decrement. -/
theorem test_I11 :
    callStep [] { blank with pc := 0x8001#16, cycles := 2, resetPending := true, halted := true, variant := .wdc65c02 } =
    some (⟨0x00#8, 0x00#8, 0x00#8, 0xFD#8, 0x8000#16, 0x24#8, 6, false, false, [.r 0xFFFC#16, .r 0xFFFD#16]⟩, false, false, false) := by decide

/-- Vector I12: halted, no reset request: no-op; NMI stays latched. -/
theorem test_I12 :
    callStep [] { blank with pc := 0x8001#16, nmiPending := true, halted := true, variant := .nmos } =
    some (⟨0x00#8, 0x00#8, 0x00#8, 0xFD#8, 0x8001#16, 0x24#8, 0, true, false, []⟩, false, true, false) := by decide

/-- Vector I13: waiting, no latch: nothing. -/
theorem test_I13 :
    callStep [] { blank with pc := 0x8001#16, p := 0x24#8, waiting := true, variant := .wdc65c02 } =
    some (⟨0x00#8, 0x00#8, 0x00#8, 0xFD#8, 0x8001#16, 0x24#8, 0, false, true, []⟩, false, false, false) := by decide

/-- Vector I14: waiting, masked IRQ: wake and dispatch the instruction at PC (E8, INX). -/
theorem test_I14 :
    callStep [(0x8001#16, 0xE8#8)] { blank with pc := 0x8001#16, p := 0x24#8, irqPending := true, waiting := true, variant := .wdc65c02 } =
    some (⟨0x00#8, 0x01#8, 0x00#8, 0xFD#8, 0x8002#16, 0x24#8, 1, false, false, [.r 0x8001#16]⟩, false, false, true) := by decide

/-! ### Witnesses: states and operands that meet the hypotheses of the obligations -/

/-- A state of variant `v` at a zero-budget transition with instruction bytes at 8000. -/
def ready (v : Variant) (bytes : List Byte) : State :=
  { blank with variant := v, mem := placeBytes bytes 0x8000#16 [] }

/-- A canonical memory with something in it, at both ends of the address space. -/
def someMem : List Host.Cell := [(0, 0x12#8), (0x01FF, 0x80#8), (65535, 0x34#8)]

/-- A state that meets the invariant, with memory in it and SP at the wrap of the stack. -/
def busy : State := { blank with a := 0xC1#8, sp := 0x00#8, p := 0xEF#8, mem := someMem }

theorem witness_DecodeInvertsEncode :
    Instr.wellFormed .nmos (.bcc 0xFF#8) = true ∧ Instr.wellFormed .wdc65c02 (.bbs7 0xFF#8 0x80#8) = true := by
  decide

theorem witness_EncodeInvertsDecode :
    decode .nmos [0x00#8] = .ok (.brk, []) ∧ decode .wdc65c02 [0xFF#8, 0xFF#8, 0x80#8, 0x01#8] =
      .ok (.bbs7 0xFF#8 0x80#8, [0x01#8]) := by decide

theorem witness_ResetThroughLatch :
    (State.reset.started = true ∧ State.reset.halted = false) ∧
    (let s := { blank with halted := true, cycles := 2 }; s.started = true ∧ s.halted = true) := by decide

/-- At the boundary `k = cycles`. -/
theorem witness_OwedCyclesCountDown :
    State.reset.started = true ∧ State.reset.halted = false ∧ 7 ≤ State.reset.cycles := by decide

/-- At PC = FFFE, whose third byte is at 0000, with the wait of WAI ended by a masked request. -/
theorem witness_StepRunsDecodedInstruction :
    let s := { blank with
      pc := 0xFFFE#16, waiting := true, irqPending := true
      mem := placeBytes [0xAD#8, 0x34#8, 0x12#8] 0xFFFE#16 [] }
    dispatches s ∧ decode s.variant s.bytesAtPc = .ok (.ldaAbs 0x1234#16, []) :=
  ⟨⟨⟨by decide, by decide, by decide⟩, by decide, by decide, by decide, by decide⟩, by decide⟩

theorem witness_StepRunsDecodedInstruction_short :
    dispatches (ready .nmos [0xA9#8, 0x42#8]) ∧
      decode .nmos (ready .nmos [0xA9#8, 0x42#8]).bytesAtPc = .ok (.ldaImm 0x42#8, [0x00#8]) :=
  ⟨⟨⟨by decide, by decide, by decide⟩, by decide, by decide, by decide, by decide⟩, by decide⟩

/-- The first and the last byte of R130. -/
theorem witness_UndefinedByteHaltsNmos : ∀ b ∈ [0x02#8, 0xFF#8],
    dispatches (ready .nmos [b]) ∧ (ready .nmos [b]).variant = .nmos ∧ (ready .nmos [b]).waiting = false ∧
      (ready .nmos [b]).peek (ready .nmos [b]).pc ∈ rule130Bytes := by
  intro b hb
  simp only [List.mem_cons, List.not_mem_nil, or_false] at hb
  rcases hb with rfl | rfl <;>
    exact ⟨⟨⟨by decide, by decide, by decide⟩, by decide, by decide, by decide, by decide⟩, by decide, by decide,
      by decide⟩

theorem witness_HaltedUntilReset :
    let s := { blank with halted := true, cycles := 2 }
    s.started = true ∧ s.halted = true ∧ s.resetPending = false := by decide

/-- One state for each clause: no request, a masked IRQ, an NMI, an IRQ that is not masked. -/
theorem witness_WaitAndWake :
    let s := { blank with waiting := true }
    atTransition s ∧ s.waiting = true ∧ s.resetPending = false ∧ s.nmiPending = false ∧ s.irqPending = false :=
  ⟨⟨by decide, by decide, by decide⟩, by decide, by decide, by decide, by decide⟩

theorem witness_WaitAndWake_masked :
    let s := { blank with waiting := true, irqPending := true }
    atTransition s ∧ s.waiting = true ∧ s.resetPending = false ∧ s.nmiPending = false ∧ s.irqPending = true ∧
      s.flag .i = true :=
  ⟨⟨by decide, by decide, by decide⟩, by decide, by decide, by decide, by decide, by decide⟩

theorem witness_WaitAndWake_nmi :
    let s := { blank with waiting := true, nmiPending := true, irqPending := true }
    atTransition s ∧ s.waiting = true ∧ s.resetPending = false ∧ s.nmiPending = true :=
  ⟨⟨by decide, by decide, by decide⟩, by decide, by decide, by decide⟩

theorem witness_WaitAndWake_irq :
    let s := { blank with waiting := true, irqPending := true, p := 0x20#8 }
    atTransition s ∧ s.waiting = true ∧ s.resetPending = false ∧ s.nmiPending = false ∧ s.irqPending = true ∧
      s.flag .i = false :=
  ⟨⟨by decide, by decide, by decide⟩, by decide, by decide, by decide, by decide, by decide⟩

/-- With I = 1 and an IRQ request as well, and SP at the wrap. -/
theorem witness_NmiEntryEffect :
    let s := { busy with nmiPending := true, irqPending := true }
    atTransition s ∧ s.resetPending = false ∧ s.nmiPending = true :=
  ⟨⟨by decide, by decide, by decide⟩, by decide, by decide⟩

theorem witness_IrqEntryEffect :
    let s := { blank with irqPending := true, p := 0x20#8 }
    atTransition s ∧ s.resetPending = false ∧ s.nmiPending = false ∧ s.irqPending = true ∧ s.flag .i = false :=
  ⟨⟨by decide, by decide, by decide⟩, by decide, by decide, by decide, by decide⟩

theorem witness_IrqEntryEffect_masked :
    let s := { blank with irqPending := true }
    atTransition s ∧ s.resetPending = false ∧ s.nmiPending = false ∧ s.irqPending = true ∧ s.flag .i = true :=
  ⟨⟨by decide, by decide, by decide⟩, by decide, by decide, by decide, by decide⟩

/-- One served request for each clause: reset, NMI, IRQ. -/
theorem witness_LatchesClearedByTheirEntryOnly :
    ∃ t, step { blank with resetPending := true, nmiPending := true } = .next t ∧
      t.resetPending = false ∧ t.nmiPending = true := ⟨_, rfl, by decide, by decide⟩

theorem witness_LatchesClearedByTheirEntryOnly_nmi :
    ∃ t, step { blank with nmiPending := true, irqPending := true } = .next t ∧
      t.nmiPending = false ∧ t.irqPending = true := ⟨_, rfl, by decide, by decide⟩

theorem witness_LatchesClearedByTheirEntryOnly_irq :
    ∃ t, step { blank with irqPending := true, p := 0x20#8 } = .next t ∧ t.irqPending = false :=
  ⟨_, rfl, by decide⟩

theorem witness_StepAlwaysAnswers : State.reset.started = true := by decide

/-- A store dispatched in a state that meets the invariant. -/
theorem witness_StepKeepsInvariant :
    Inv (ready .nmos [0x8D#8, 0x00#8, 0x02#8]) ∧ ∃ t, step (ready .nmos [0x8D#8, 0x00#8, 0x02#8]) = .next t :=
  ⟨⟨by decide, by decide, by decide⟩, _, rfl⟩

theorem witness_HostKeepsInvariant : Memory.wf someMem = true ∧ Inv busy :=
  ⟨by decide, ⟨by decide, by decide, by decide⟩⟩

/-- SED writes D and nothing else: C is a flag it does not write. -/
theorem witness_FlagFrame : (∃ t, exec .sed blank = .next t) ∧ Flag.c ∉ flagsWritten .sed :=
  ⟨⟨_, rfl⟩, by decide⟩

theorem witness_RegisterFrame : (∃ t, exec .pla blank = .next t) ∧ Reg.x ∉ regsWritten .pla :=
  ⟨⟨_, rfl⟩, by decide⟩

/-- The addresses next to the byte stored, and a form that stores nothing. -/
theorem witness_MemoryFrame :
    (∃ t, exec (.staAbs 0xFFFF#16) busy = .next t) ∧
      0x0000#16 ∉ storedBytes (.staAbs 0xFFFF#16) busy ∧ 0xFFFE#16 ∉ storedBytes (.staAbs 0xFFFF#16) busy ∧
      (∃ t, exec (.cmpImm 0x00#8) busy = .next t) ∧ 0x0000#16 ∉ storedBytes (.cmpImm 0x00#8) busy :=
  ⟨⟨_, rfl⟩, by decide, by decide, ⟨_, rfl⟩, by decide⟩

/-- A byte of ROM that is stored to; and a device that is stored to and not read. -/
theorem witness_MemoryFrame_platform :
    (let s := { busy with map := platform }
     s.kindAt 0xFFFF#16 ≠ .ram ∧ ∃ t, exec (.staAbs 0xFFFF#16) s = .next t) ∧
    (let s := { busy with map := platform }
     s.kindAt 0xD000#16 = .device ∧ ∃ t, exec (.staAbs 0xD000#16) s = .next t ∧ t.deviceReads = s.deviceReads) :=
  ⟨⟨by decide, _, rfl⟩, by decide, _, rfl, by decide⟩

theorem witness_MemoryFollowsTheBus :
    ∃ t, step (ready .wdc65c02 [0x00#8]) = .next t ∧ t.bus.length = 6 := ⟨_, rfl, by decide⟩

/-- One address of each kind, and a device with an answer left. -/
theorem witness_MemoryFollowsTheBus_platform :
    let s := { busy with map := platform, answers := [0x99#8] }
    Memory.wf s.mem = true ∧ s.kindAt 0xCFFF#16 = .ram ∧ s.kindAt 0xE000#16 ≠ .ram ∧ 0xE000#16 ≠ 0xCFFF#16 ∧
      s.deviceReads < s.answers.length ∧ s.kindAt 0xD000#16 = .device := by decide

/-- A live Break bit, which only a host can set, is still set after a decrement. -/
theorem witness_LiveBreakNeverSet :
    (∃ t, step { State.reset with p := 0x34#8 } = .next t ∧ t.flag .b = true) ∧
      (∃ t, exec .plp blank = .next t) ∧ ∃ t, exec .rti blank = .next t :=
  ⟨⟨_, rfl, by decide⟩, ⟨_, rfl⟩, ⟨_, rfl⟩⟩

theorem witness_VariantsAgree : variantSwitched (.aslAbs 0x2000#16) = false ∧ variantSwitched .rti = false := by decide

theorem witness_DecimalIgnored :
    (⟨0x69#8, true, .adcImm 0x99#8, .imm 0x99#8⟩ : Form) ∈ adcForms 0x99#8 0x0000#16 ++ sbcForms 0x99#8 0x0000#16 := by
  simp [adcForms]

/-- The pointer of `STA ($FF),Y` is at FF and 00; what it points at is RAM, and FFFF is no device. -/
theorem witness_StoreThenLoadReturnsValue :
    Memory.wf busy.mem = true ∧
      (⟨0x91#8, true, .staIndY 0xFF#8, .indY 0xFF#8⟩ : Form) ∈ staForms 0xFF#8 0x0000#16 ∧
      busy.kindAt 0xFFFF#16 ≠ .device ∧ busy.kindAt (effectiveAddr (.indY 0xFF#8) busy) = .ram :=
  ⟨by decide, by simp [staForms], by decide, by decide⟩

/-- STA to ROM, whose bytes stay. -/
theorem witness_StoreThenLoadReturnsValue_rom :
    let s := { busy with map := platform }
    Memory.wf s.mem = true ∧
      (⟨0x8D#8, true, .staAbs 0xFFFF#16, .abs 0xFFFF#16⟩ : Form) ∈ staForms 0x00#8 0xFFFF#16 ∧
      s.kindAt 0xFFFF#16 ≠ .device ∧ s.kindAt 0xFFFF#16 ≠ .ram :=
  ⟨by decide, by simp [staForms], by decide, by decide⟩

/-- The form lists of the result statements are not empty and hold the form at the end of each. -/
theorem witness_resultForms (o : Byte) (w : Word) :
    (⟨0xBD#8, true, .ldaAbsX w, .absX w⟩ : Form) ∈ ldaForms o w ∧
    (⟨0x9E#8, false, .stzAbsX w, .absX w⟩ : Form) ∈ stzForms o w ∧
    (⟨0x7D#8, true, .adcAbsX w, .absX w⟩ : Form) ∈ adcForms o w ∧
    (⟨0xFD#8, true, .sbcAbsX w, .absX w⟩ : Form) ∈ sbcForms o w ∧
    (⟨0xCC#8, true, .cpyAbs w, .abs w⟩ : Form) ∈ cpyForms o w ∧
    (⟨0xDE#8, true, .decAbsX w, .absX w⟩ : Form) ∈ decForms o w ∧
    (⟨0x7E#8, true, .rorAbsX w, .absX w⟩ : Form) ∈ rorForms o w ∧
    (⟨0x5D#8, true, .eorAbsX w, .absX w⟩ : Form) ∈ eorForms o w ∧
    (⟨0x89#8, false, .bitImm o, .imm o⟩ : Form) ∈ bitForms o w ∧
    (⟨0x1C#8, false, .trbAbs w, .abs w⟩ : Form) ∈ trbForms o w ∧
    (⟨0x7C#8, false, .jmpAbsIndX w, .absIndX w⟩ : Form) ∈ jmpForms o w := by
  simp [ldaForms, stzForms, adcForms, sbcForms, cpyForms, decForms, rorForms, eorForms, bitForms, trbForms, jmpForms]

/-- The hypotheses of AdcResults and SbcResults are equations that name a value: here is one, a carry out of the
sum. -/
theorem witness_AdcResults :
    let s := { blank with a := 0xFF#8, p := 0x25#8 }
    0x00#8 = operandByte (.imm 0x00#8) s ∧ 256 = s.a.toNat + (0x00#8).toNat + (s.flag .c).toNat ∧
      0x00#8 = BitVec.ofNat 8 256 := by decide

theorem witness_SbcResults :
    let s := { blank with a := 0x50#8, p := 0x25#8 }
    0xCF#8 = operandByte (.imm 0x30#8) s ^^^ 0xFF#8 ∧ 0x120 = s.a.toNat + (0xCF#8).toNat + (s.flag .c).toNat ∧
      0x20#8 = BitVec.ofNat 8 0x120 := by decide

/-- The byte pulled across the wrap of the stack. -/
theorem witness_PullResults :
    0x12#8 = State.peek { blank with sp := 0xFF#8, mem := [(0x0100, 0x12#8)] } (mkWord 0x01#8 (0xFF#8 + 1#8)) := by
  decide

/-- With SP = FE: the bytes at 01FF, 0100 and 0101. -/
theorem witness_JumpCallReturnResults :
    ∃ r1 r2 : State, ∃ b1 b2 b3 : Byte,
      let s := { busy with sp := 0xFE#8 }
      r1 = s.noteRead (mkWord 0x01#8 (s.sp + 1#8)) ∧ r2 = r1.noteRead (mkWord 0x01#8 (s.sp + 2#8)) ∧
        b1 = s.peek (mkWord 0x01#8 (s.sp + 1#8)) ∧ b2 = r1.peek (mkWord 0x01#8 (s.sp + 2#8)) ∧
        b3 = r2.peek (mkWord 0x01#8 (s.sp + 3#8)) ∧ b1 = 0x80#8 ∧ b2 = 0x00#8 :=
  ⟨_, _, _, _, _, rfl, rfl, rfl, rfl, rfl, by decide, by decide⟩

theorem witness_CompareResults : 0x42#8 = operandByte (.imm 0x42#8) blank := by decide

theorem witness_IncDecMemoryResults :
    0x00#8 = operandByte (.zp 0x10#8) { blank with mem := [(16, 0xFF#8)] } + 1#8 := by decide

theorem witness_ShiftResults : 0xFF#8 = operandByte (.zp 0x10#8) { blank with mem := [(16, 0xFF#8)] } := by decide

theorem witness_LogicResults :
    0x30#8 = ({ blank with a := 0xF0#8 } : State).a &&& operandByte (.imm 0x3C#8) { blank with a := 0xF0#8 } := by
  decide

theorem witness_BitTestResults : 0xC0#8 = operandByte (.imm 0xC0#8) blank := by decide

theorem witness_TestAndModifyResults :
    0xF0#8 = operandByte (.zp 0x10#8) { blank with mem := [(16, 0xF0#8)] } := by decide

/-- A branch across the end of the address space, and one bit of a byte that is set while another is clear. -/
theorem witness_BranchResults :
    0x0002#16 = ({ blank with pc := 0xFFF2#16 } : State).pc + (0x10#8).signExtend 16 := by decide

theorem witness_BitBranchResults :
    let s := { blank with mem := [(32, 0x80#8)] }
    0x80#8 = s.peek (mkWord 0x00#8 0x20#8) ∧ 0x7FFD#16 = s.pc + (0xFD#8).signExtend 16 := by decide

theorem witness_AdderIsIntegerArithmetic : 1 = (({ blank with p := 0x25#8 } : State).flag .c).toNat := by decide

/-- With the stack at its wrap, on the default platform and on another whose stack is RAM. -/
theorem witness_PushThenPullRestores :
    (Memory.wf busy.mem = true ∧ busy.kindAt (mkWord 0x01#8 busy.sp) = .ram) ∧
      ({ busy with map := platform } : State).kindAt (mkWord 0x01#8 busy.sp) = .ram := by decide

theorem witness_JsrThenRtsReturns :
    Memory.wf busy.mem = true ∧ busy.sp = 0x00#8 ∧ busy.kindAt (mkWord 0x01#8 busy.sp) = .ram ∧
      busy.kindAt (mkWord 0x01#8 (busy.sp - 1#8)) = .ram := by decide

theorem witness_RtiUndoesEntry :
    let s := { busy with map := platform }
    Memory.wf s.mem = true ∧ s.kindAt (mkWord 0x01#8 s.sp) = .ram ∧ s.kindAt (mkWord 0x01#8 (s.sp - 1#8)) = .ram ∧
      s.kindAt (mkWord 0x01#8 (s.sp - 2#8)) = .ram ∧ nmiVector ∈ [nmiVector, irqVector] :=
  ⟨by decide, by decide, by decide, by decide, by simp⟩

end Sys2Proof.Tests
end

section
/-! PROOFS. The status register after each shared operation, and from it the frame of the flags (R40 to R45): an
instruction changes no flag but those its rule names. -/

namespace Sys2Proof.Proofs

open Sys2Proof.Machine Sys2Proof.Laws

/-! ### A flag of P after each of the model's ways to compute it -/

/-- A flag after a comparison (R252 to R254). -/
@[simp] theorem getFlag_compareStatus (f : Flag) (reg m p : Byte) :
    getFlag f (compareStatus reg m p) =
      if f = .c then decide (m.toNat ≤ reg.toNat) else if f = .z then reg == m
      else if f = .n then (reg - m).getLsbD 7 else getFlag f p := by
  simp [compareStatus]

/-- A flag after a shift or rotate (R280 to R283). -/
@[simp] theorem getFlag_shiftStatus (f : Flag) (r : Shifted) (p : Byte) :
    getFlag f (shiftStatus r p) =
      if f = .n then r.res.getLsbD 7 else if f = .z then r.res == 0x00#8
      else if f = .c then r.out else getFlag f p := by
  simp [shiftStatus]

/-- BIT on memory keeps every flag but Z, V and N (R303). -/
theorem getFlag_bitStatus_of_notMem {f : Flag} (hf : f ∉ [Flag.z, .v, .n]) (m : Mode) (a v p : Byte) :
    getFlag f (bitStatus m a v p) = getFlag f p := by
  simp only [List.mem_cons, List.not_mem_nil, or_false, not_or] at hf
  obtain ⟨hz, hv, hn⟩ := hf
  cases m <;> simp [bitStatus, hz, hv, hn]

/-- The entry to a handler keeps every flag but I and D (R324, R414). -/
theorem getFlag_entryStatus_of_notMem {f : Flag} (hf : f ∉ [Flag.i, .d]) (v : Variant) (p : Byte) :
    getFlag f (entryStatus v p) = getFlag f p := by
  simp only [List.mem_cons, List.not_mem_nil, or_false, not_or] at hf
  obtain ⟨hi, hd⟩ := hf
  cases v <;> simp [entryStatus, hi, hd]

/-! ### The status register after each family's operation -/

section
variable (m : Mode) (s : State)

theorem lda_p : (lda m s).p = putZN (operandByte m s) s.p := by rw [lda_eq]
theorem ldx_p : (ldx m s).p = putZN (operandByte m s) s.p := by rw [ldx_eq]
theorem ldy_p : (ldy m s).p = putZN (operandByte m s) s.p := by rw [ldy_eq]
theorem andA_p : (andA m s).p = putZN (s.a &&& operandByte m s) s.p := by rw [andA_eq]
theorem oraA_p : (oraA m s).p = putZN (s.a ||| operandByte m s) s.p := by rw [oraA_eq]
theorem eorA_p : (eorA m s).p = putZN (s.a ^^^ operandByte m s) s.p := by rw [eorA_eq]
theorem bitTest_p : (bitTest m s).p = bitStatus m s.a (operandByte m s) s.p := by rw [bitTest_eq]
theorem cmp_p : (Sys2Proof.Machine.cmp m s).p = compareStatus s.a (operandByte m s) s.p := by rw [cmp_eq]
theorem cpx_p : (cpx m s).p = compareStatus s.x (operandByte m s) s.p := by rw [cpx_eq]
theorem cpy_p : (cpy m s).p = compareStatus s.y (operandByte m s) s.p := by rw [cpy_eq]
theorem adc_p : (adc m s).p = (setSum (addBytes s.a (operandByte m s) (s.flag .c)) s).p := by rw [adc_eq]
theorem sbc_p : (sbc m s).p = (setSum (subBytes s.a (operandByte m s) (s.flag .c)) s).p := by rw [sbc_eq]
theorem jmp_p : (jmp m s).p = s.p := by rw [jmp_eq]
theorem storeByte_p (v : Byte) : (storeByte m v s).p = s.p := by rw [storeByte_eq]
theorem discardOperand_p : (discardOperand m s).p = s.p := by simp [discardOperand, resolve_st, afterPointers]

section
variable (hm : ∀ v, m ≠ .imm v)
include hm

theorem incMem_p : (incMem m s).p = putZN (operandByte m s + 1#8) s.p := by rw [incMem_eq m s hm]
theorem decMem_p : (decMem m s).p = putZN (operandByte m s - 1#8) s.p := by rw [decMem_eq m s hm]
theorem tsb_p : (tsb m s).p = putFlag .z ((s.a &&& operandByte m s) == 0x00#8) s.p := by rw [tsb_eq m s hm]
theorem trb_p : (trb m s).p = putFlag .z ((s.a &&& operandByte m s) == 0x00#8) s.p := by rw [trb_eq m s hm]

end

theorem shiftMem_p (op : ShiftOp) (hm : ∀ v, m ≠ .imm v) :
    (shiftMem op m s).p = shiftStatus (shiftByte op (s.flag .c) (operandByte m s)) s.p := by
  rw [shiftMem_eq op m s hm]; rfl

theorem incAcc_p : (incAcc s).p = putZN (s.a + 1#8) s.p := rfl
theorem decAcc_p : (decAcc s).p = putZN (s.a - 1#8) s.p := rfl
theorem shiftAcc_p (op : ShiftOp) : (shiftAcc op s).p = shiftStatus (shiftByte op (s.flag .c) s.a) s.p := rfl
theorem rmb_p (n : Nat) (o : Byte) : (rmb n o s).p = s.p := by rw [rmb_eq]; rfl
theorem smb_p (n : Nat) (o : Byte) : (smb n o s).p = s.p := by rw [smb_eq]; rfl
theorem jsr_p (w : Word) : (jsr (.abs w) s).p = s.p := by rw [jsr_eq]
theorem rts_p : (rts s).p = s.p := by rw [rts_eq]
theorem brk_p : (brk s).p = entryStatus s.variant s.p := by rw [brk_eq]
theorem branchIf_p (f : Flag) (sense : Bool) (off : Byte) : (branchIf f sense off s).p = s.p := by
  rw [branchIf_eq]; split <;> rfl
theorem branchAlways_p (off : Byte) : (branchAlways off s).p = s.p := by rw [branchAlways_eq]
theorem branchOnBit_p (n : Nat) (sense : Bool) (zp off : Byte) : (branchOnBit n sense zp off s).p = s.p := by
  rw [branchOnBit_eq]; split <;> rfl

end

/-! ### The frame of each shape of status register -/

section
variable {f : Flag} {s t : State}

/-- An operation that keeps P keeps every flag. -/
theorem flag_eq_of_p_eq (h : t.p = s.p) : t.flag f = s.flag f := congrArg (getFlag f) h

/-- Z and N from a result (R41, R45): every other flag is kept. -/
theorem flag_eq_of_putZN {v : Byte} (h : t.p = putZN v s.p) (hf : f ∉ [Flag.z, .n]) : t.flag f = s.flag f := by
  simp_all [State.flag]

/-- C, V, Z and N from the adder (R250, R251). -/
theorem flag_eq_of_setSum {r : Sum} (h : t.p = (setSum r s).p) (hf : f ∉ [Flag.c, .v, .z, .n]) :
    t.flag f = s.flag f := by
  simp_all [State.flag]

/-- C, Z and N from a comparison. -/
theorem flag_eq_of_compareStatus {reg v : Byte} (h : t.p = compareStatus reg v s.p) (hf : f ∉ [Flag.c, .z, .n]) :
    t.flag f = s.flag f := by
  simp_all [State.flag]

/-- C, Z and N from a shift or rotate. -/
theorem flag_eq_of_shiftStatus {r : Shifted} (h : t.p = shiftStatus r s.p) (hf : f ∉ [Flag.c, .z, .n]) :
    t.flag f = s.flag f := by
  simp_all [State.flag]

/-- One flag written. -/
theorem flag_eq_of_putFlag {g : Flag} {on : Bool} (h : t.p = putFlag g on s.p) (hf : f ∉ [g]) :
    t.flag f = s.flag f := by
  simp_all [State.flag]

/-- BIT on memory. -/
theorem flag_eq_of_bitStatus {m : Mode} {a v : Byte} (h : t.p = bitStatus m a v s.p) (hf : f ∉ [Flag.z, .v, .n]) :
    t.flag f = s.flag f := by
  rw [State.flag, h, getFlag_bitStatus_of_notMem hf]; rfl

/-- BIT Immediate. -/
theorem flag_eq_of_bitStatus_imm {o a v : Byte} (h : t.p = bitStatus (.imm o) a v s.p) (hf : f ∉ [Flag.z]) :
    t.flag f = s.flag f :=
  flag_eq_of_putFlag h hf

/-- The entry to a handler. -/
theorem flag_eq_of_entryStatus (h : t.p = entryStatus s.variant s.p) (hf : f ∉ [Flag.i, .d]) :
    t.flag f = s.flag f := by
  rw [State.flag, h, getFlag_entryStatus_of_notMem hf]; rfl

end

/-- PLP and RTI may write every flag (R237, R323), so their frame is empty. -/
theorem mem_allFlags (f : Flag) : f ∈ [Flag.c, .z, .i, .d, .b, .u, .v, .n] := by cases f <;> decide

/-- Settles O23: by the constructors; `cases h` reads `t` off the constructor's arm of `exec`, and the status register
the family's operation leaves fixes the flags that may differ. -/
theorem flagFrame : Obligations.FlagFrame := by
  unfold Obligations.FlagFrame
  intro i s t f h hf
  cases i with
  -- Z and N from the byte loaded (R201 to R203)
  | ldaIndX | ldaZp | ldaImm | ldaAbs | ldaIndY | ldaZpInd | ldaZpX | ldaAbsY | ldaAbsX =>
    cases h; exact flag_eq_of_putZN (lda_p _ s) hf
  | ldxImm | ldxZp | ldxAbs | ldxZpY | ldxAbsY => cases h; exact flag_eq_of_putZN (ldx_p _ s) hf
  | ldyImm | ldyZp | ldyAbs | ldyZpX | ldyAbsX => cases h; exact flag_eq_of_putZN (ldy_p _ s) hf
  -- Z and N from the value moved, pulled or counted (R220 to R224, R234 to R236, R270 to R277)
  | txa | tya => cases h; exact flag_eq_of_putZN (setA_p _ s) hf
  | tax | tsx | inx | dex => cases h; exact flag_eq_of_putZN (setX_p _ s) hf
  | tay | iny | dey => cases h; exact flag_eq_of_putZN (setY_p _ s) hf
  | pla => cases h; exact flag_eq_of_putZN (setA_p _ s.pull.2) hf
  | plx => cases h; exact flag_eq_of_putZN (setX_p _ s.pull.2) hf
  | ply => cases h; exact flag_eq_of_putZN (setY_p _ s.pull.2) hf
  | incA => cases h; exact flag_eq_of_putZN (incAcc_p s) hf
  | decA => cases h; exact flag_eq_of_putZN (decAcc_p s) hf
  | incZp | incAbs | incZpX | incAbsX => cases h; exact flag_eq_of_putZN (incMem_p _ s nofun) hf
  | decZp | decAbs | decZpX | decAbsX => cases h; exact flag_eq_of_putZN (decMem_p _ s nofun) hf
  -- Z and N from the logic (R300 to R302)
  | andIndX | andZp | andImm | andAbs | andIndY | andZpInd | andZpX | andAbsY | andAbsX =>
    cases h; exact flag_eq_of_putZN (andA_p _ s) hf
  | oraIndX | oraZp | oraImm | oraAbs | oraIndY | oraZpInd | oraZpX | oraAbsY | oraAbsX =>
    cases h; exact flag_eq_of_putZN (oraA_p _ s) hf
  | eorIndX | eorZp | eorImm | eorAbs | eorIndY | eorZpInd | eorZpX | eorAbsY | eorAbsX =>
    cases h; exact flag_eq_of_putZN (eorA_p _ s) hf
  -- the adder (R250, R251)
  | adcIndX | adcZp | adcImm | adcAbs | adcIndY | adcZpInd | adcZpX | adcAbsY | adcAbsX =>
    cases h; exact flag_eq_of_setSum (adc_p _ s) hf
  | sbcIndX | sbcZp | sbcImm | sbcAbs | sbcIndY | sbcZpInd | sbcZpX | sbcAbsY | sbcAbsX =>
    cases h; exact flag_eq_of_setSum (sbc_p _ s) hf
  -- comparisons (R252 to R254)
  | cmpIndX | cmpZp | cmpImm | cmpAbs | cmpIndY | cmpZpInd | cmpZpX | cmpAbsY | cmpAbsX =>
    cases h; exact flag_eq_of_compareStatus (cmp_p _ s) hf
  | cpxImm | cpxZp | cpxAbs => cases h; exact flag_eq_of_compareStatus (cpx_p _ s) hf
  | cpyImm | cpyZp | cpyAbs => cases h; exact flag_eq_of_compareStatus (cpy_p _ s) hf
  -- shifts and rotates (R280 to R283)
  | aslA | lsrA | rolA | rorA => cases h; exact flag_eq_of_shiftStatus (shiftAcc_p s _) hf
  | aslZp | aslAbs | aslZpX | aslAbsX | lsrZp | lsrAbs | lsrZpX | lsrAbsX | rolZp | rolAbs | rolZpX | rolAbsX
  | rorZp | rorAbs | rorZpX | rorAbsX => cases h; exact flag_eq_of_shiftStatus (shiftMem_p _ s _ nofun) hf
  -- the bit tests (R303 to R305)
  | bitZp | bitAbs | bitZpX | bitAbsX => cases h; exact flag_eq_of_bitStatus (bitTest_p _ s) hf
  | bitImm => cases h; exact flag_eq_of_bitStatus_imm (bitTest_p _ s) hf
  | tsbZp | tsbAbs => cases h; exact flag_eq_of_putFlag (tsb_p _ s nofun) hf
  | trbZp | trbAbs => cases h; exact flag_eq_of_putFlag (trb_p _ s nofun) hf
  -- P pulled (R237, R323), an exception (R324), one flag by name (R350 to R356)
  | plp | rti => exact absurd (mem_allFlags f) hf
  | brk => cases h; exact flag_eq_of_entryStatus (brk_p s) hf
  | clc | sec | cli | sei | cld | sed | clv => cases h; exact flag_eq_of_putFlag (setFlag_p s _ _) hf
  -- P is not touched
  | staIndX | staZp | staAbs | staIndY | staZpInd | staZpX | staAbsY | staAbsX | stxZp | stxAbs | stxZpY | styZp
  | styAbs | styZpX | stzZp | stzZpX | stzAbs | stzAbsX => cases h; exact flag_eq_of_p_eq (storeByte_p _ s _)
  | pha | phx | phy | php => cases h; exact flag_eq_of_p_eq (push_p s _)
  | jmpAbs | jmpInd | jmpAbsIndX => cases h; exact flag_eq_of_p_eq (jmp_p _ s)
  | jsr => cases h; exact flag_eq_of_p_eq (jsr_p s _)
  | rts => cases h; exact flag_eq_of_p_eq (rts_p s)
  | bcc | bcs | beq | bne | bmi | bpl | bvc | bvs => cases h; exact flag_eq_of_p_eq (branchIf_p s _ _ _)
  | bra => cases h; exact flag_eq_of_p_eq (branchAlways_p s _)
  | rmb0 | rmb1 | rmb2 | rmb3 | rmb4 | rmb5 | rmb6 | rmb7 => cases h; exact flag_eq_of_p_eq (rmb_p s _ _)
  | smb0 | smb1 | smb2 | smb3 | smb4 | smb5 | smb6 | smb7 => cases h; exact flag_eq_of_p_eq (smb_p s _ _)
  | bbr0 | bbr1 | bbr2 | bbr3 | bbr4 | bbr5 | bbr6 | bbr7 | bbs0 | bbs1 | bbs2 | bbs3 | bbs4 | bbs5 | bbs6 | bbs7 =>
    cases h; exact flag_eq_of_p_eq (branchOnBit_p s _ _ _ _)
  | nop02 | nop22 | nop42 | nop44 | nop54 | nop5C | nop62 | nop82 | nopC2 | nopD4 | nopDC | nopE2 | nopF4 | nopFC =>
    cases h; exact flag_eq_of_p_eq (discardOperand_p _ s)
  | txs | wai | stp | nop | nop03 | nop0B | nop13 | nop1B | nop23 | nop2B | nop33 | nop3B | nop43 | nop4B | nop53
  | nop5B | nop63 | nop6B | nop73 | nop7B | nop83 | nop8B | nop93 | nop9B | nopA3 | nopAB | nopB3 | nopBB | nopC3
  | nopD3 | nopE3 | nopEB | nopF3 | nopFB => cases h; rfl

end Sys2Proof.Proofs
end

section
/-! PROOFS. What each instruction keeps: the registers outside its own (R31 to R35), the parameters and the latches, and
the canonical form of memory (R81). -/

namespace Sys2Proof.Proofs

open Sys2Proof.Machine Sys2Proof.Laws

/-- What an instruction that may write the registers `written` leaves alone, whatever it does to P, `Cycles`, the
accesses and memory: every other register; the parameters, the devices' answers and the request latches (R6, R46, R47);
`Waiting`, unless it `waits`, and `Halted`, unless it `halts` (R49, R50); the canonical form of memory (R81). -/
structure Keeps (written : List Reg) (waits halts : Bool) (s t : State) : Prop where
  a : Reg.a ∈ written ∨ t.a = s.a
  x : Reg.x ∈ written ∨ t.x = s.x
  y : Reg.y ∈ written ∨ t.y = s.y
  sp : Reg.sp ∈ written ∨ t.sp = s.sp
  pc : Reg.pc ∈ written ∨ t.pc = s.pc
  control : t = { s with
    a := t.a, x := t.x, y := t.y, sp := t.sp, pc := t.pc, p := t.p, cycles := t.cycles, mem := t.mem, bus := t.bus
    waiting := waits || s.waiting
    halted := halts || s.halted }
  canonical : Memory.wf s.mem = true → Memory.wf t.mem = true

/-! ### The shapes of state the families leave -/

section
variable (s : State) (v p : Byte) (w : Word) (n : Nat) (bus : List Access)

theorem keeps_of_writeA : Keeps [.a] false false s { s with a := v, p := p, cycles := n, bus := bus } :=
  ⟨.inl (by simp), .inr rfl, .inr rfl, .inr rfl, .inr rfl, rfl, id⟩

theorem keeps_of_writeX : Keeps [.x] false false s { s with x := v, p := p, cycles := n, bus := bus } :=
  ⟨.inr rfl, .inl (by simp), .inr rfl, .inr rfl, .inr rfl, rfl, id⟩

theorem keeps_of_writeY : Keeps [.y] false false s { s with y := v, p := p, cycles := n, bus := bus } :=
  ⟨.inr rfl, .inr rfl, .inl (by simp), .inr rfl, .inr rfl, rfl, id⟩

theorem keeps_of_writePc : Keeps [.pc] false false s { s with pc := w, cycles := n, bus := bus } :=
  ⟨.inr rfl, .inr rfl, .inr rfl, .inr rfl, .inl (by simp), rfl, id⟩

theorem keeps_of_noRegister {mem : List Host.Cell} (hm : Memory.wf s.mem = true → Memory.wf mem = true) :
    Keeps [] false false s { s with p := p, cycles := n, mem := mem, bus := bus } :=
  ⟨.inr rfl, .inr rfl, .inr rfl, .inr rfl, .inr rfl, rfl, hm⟩

theorem keeps_of_writeSp {mem : List Host.Cell} (hm : Memory.wf s.mem = true → Memory.wf mem = true) :
    Keeps [.sp] false false s { s with sp := v, p := p, mem := mem, bus := bus } :=
  ⟨.inr rfl, .inr rfl, .inr rfl, .inl (by simp), .inr rfl, rfl, hm⟩

theorem keeps_of_writeSpPc {mem : List Host.Cell} (hm : Memory.wf s.mem = true → Memory.wf mem = true) :
    Keeps [.sp, .pc] false false s { s with sp := v, pc := w, p := p, mem := mem, bus := bus } :=
  ⟨.inr rfl, .inr rfl, .inr rfl, .inl (by simp), .inl (by simp), rfl, hm⟩

end

/-! ### Memory stays canonical through what an instruction writes -/

section
variable {s : State} (h : Memory.wf s.mem = true)
include h

theorem wf_storedMem (m : Mode) (v : Byte) : Memory.wf (storedMem m v s) = true := wf_busWrite _ _ _ _ h

theorem wf_pushedWordMem (w : Word) : Memory.wf (pushedWordMem w s) = true :=
  wf_busWrite _ _ _ _ (wf_busWrite _ _ _ _ h)

theorem wf_pushedFrameMem (w : Word) (status : Byte) : Memory.wf (pushedFrameMem w status s) = true :=
  wf_busWrite _ _ _ _ (wf_pushedWordMem h w)

end

/-! ### The frame of each family's operation -/

section
variable (m : Mode) (s : State)

theorem lda_keeps : Keeps [.a] false false s (lda m s) := lda_eq m s ▸ keeps_of_writeA ..
theorem adc_keeps : Keeps [.a] false false s (adc m s) := adc_eq m s ▸ keeps_of_writeA ..
theorem sbc_keeps : Keeps [.a] false false s (sbc m s) := sbc_eq m s ▸ keeps_of_writeA ..
theorem andA_keeps : Keeps [.a] false false s (andA m s) := andA_eq m s ▸ keeps_of_writeA ..
theorem oraA_keeps : Keeps [.a] false false s (oraA m s) := oraA_eq m s ▸ keeps_of_writeA ..
theorem eorA_keeps : Keeps [.a] false false s (eorA m s) := eorA_eq m s ▸ keeps_of_writeA ..
theorem ldx_keeps : Keeps [.x] false false s (ldx m s) := ldx_eq m s ▸ keeps_of_writeX ..
theorem ldy_keeps : Keeps [.y] false false s (ldy m s) := ldy_eq m s ▸ keeps_of_writeY ..
theorem cmp_keeps : Keeps [] false false s (Sys2Proof.Machine.cmp m s) := cmp_eq m s ▸ keeps_of_noRegister _ _ _ _ id
theorem cpx_keeps : Keeps [] false false s (cpx m s) := cpx_eq m s ▸ keeps_of_noRegister _ _ _ _ id
theorem cpy_keeps : Keeps [] false false s (cpy m s) := cpy_eq m s ▸ keeps_of_noRegister _ _ _ _ id
theorem bitTest_keeps : Keeps [] false false s (bitTest m s) := bitTest_eq m s ▸ keeps_of_noRegister _ _ _ _ id
theorem jmp_keeps : Keeps [.pc] false false s (jmp m s) := jmp_eq m s ▸ keeps_of_writePc ..
theorem storeByte_keeps (v : Byte) : Keeps [] false false s (storeByte m v s) :=
  storeByte_eq m v s ▸ keeps_of_noRegister _ _ _ _ (wf_storedMem · m v)

theorem discardOperand_keeps : Keeps [] false false s (discardOperand m s) := by
  rw [discardOperand, resolve_st]; exact keeps_of_noRegister _ _ _ _ id

section
variable (hm : ∀ v, m ≠ .imm v)
include hm

theorem incMem_keeps : Keeps [] false false s (incMem m s) :=
  incMem_eq m s hm ▸ keeps_of_noRegister _ _ _ _ (wf_storedMem · m _)
theorem decMem_keeps : Keeps [] false false s (decMem m s) :=
  decMem_eq m s hm ▸ keeps_of_noRegister _ _ _ _ (wf_storedMem · m _)
theorem tsb_keeps : Keeps [] false false s (tsb m s) :=
  tsb_eq m s hm ▸ keeps_of_noRegister _ _ _ _ (wf_storedMem · m _)
theorem trb_keeps : Keeps [] false false s (trb m s) :=
  trb_eq m s hm ▸ keeps_of_noRegister _ _ _ _ (wf_storedMem · m _)

end

theorem shiftMem_keeps (op : ShiftOp) (hm : ∀ v, m ≠ .imm v) : Keeps [] false false s (shiftMem op m s) :=
  shiftMem_eq op m s hm ▸ keeps_of_noRegister _ _ _ _ (wf_storedMem · m _)

theorem rmb_keeps (n : Nat) (o : Byte) : Keeps [] false false s (rmb n o s) :=
  rmb_eq n o s ▸ keeps_of_noRegister _ _ _ _ (wf_storedMem · (.zp o) _)
theorem smb_keeps (n : Nat) (o : Byte) : Keeps [] false false s (smb n o s) :=
  smb_eq n o s ▸ keeps_of_noRegister _ _ _ _ (wf_storedMem · (.zp o) _)
theorem push_keeps (v : Byte) : Keeps [.sp] false false s (s.push v) :=
  keeps_of_writeSp _ _ _ _ (wf_busWrite _ _ _ _)
theorem jsr_keeps (w : Word) : Keeps [.sp, .pc] false false s (jsr (.abs w) s) :=
  jsr_eq w s ▸ keeps_of_writeSpPc _ _ _ _ _ (wf_pushedWordMem · _)
theorem rts_keeps : Keeps [.sp, .pc] false false s (rts s) := rts_eq s ▸ keeps_of_writeSpPc _ _ _ _ _ id
theorem returnFromException_keeps : Keeps [.sp, .pc] false false s s.returnFromException :=
  returnFromException_eq s ▸ keeps_of_writeSpPc _ _ _ _ _ id
theorem brk_keeps : Keeps [.sp, .pc] false false s (brk s) :=
  brk_eq s ▸ keeps_of_writeSpPc _ _ _ _ _ (wf_pushedFrameMem · _ _)
theorem branchIf_keeps (f : Flag) (sense : Bool) (off : Byte) : Keeps [.pc] false false s (branchIf f sense off s) := by
  rw [branchIf_eq]; split <;> exact keeps_of_writePc ..
theorem branchAlways_keeps (off : Byte) : Keeps [.pc] false false s (branchAlways off s) :=
  branchAlways_eq off s ▸ keeps_of_writePc ..
theorem branchOnBit_keeps (n : Nat) (sense : Bool) (zp off : Byte) :
    Keeps [.pc] false false s (branchOnBit n sense zp off s) := by
  rw [branchOnBit_eq]; split <;> exact keeps_of_writePc ..

end

/-- Every instruction keeps all but the registers R31 to R35 let it write; only WAI waits and only STP halts. -/
theorem exec_keeps {i : Instr} {s t : State} (h : exec i s = .next t) :
    Keeps (regsWritten i) (decide (i = .wai)) (decide (i = .stp)) s t := by
  cases i with
  -- A (R31)
  | ldaIndX | ldaZp | ldaImm | ldaAbs | ldaIndY | ldaZpInd | ldaZpX | ldaAbsY | ldaAbsX =>
    cases h; exact lda_keeps _ s
  | adcIndX | adcZp | adcImm | adcAbs | adcIndY | adcZpInd | adcZpX | adcAbsY | adcAbsX =>
    cases h; exact adc_keeps _ s
  | sbcIndX | sbcZp | sbcImm | sbcAbs | sbcIndY | sbcZpInd | sbcZpX | sbcAbsY | sbcAbsX =>
    cases h; exact sbc_keeps _ s
  | andIndX | andZp | andImm | andAbs | andIndY | andZpInd | andZpX | andAbsY | andAbsX =>
    cases h; exact andA_keeps _ s
  | oraIndX | oraZp | oraImm | oraAbs | oraIndY | oraZpInd | oraZpX | oraAbsY | oraAbsX =>
    cases h; exact oraA_keeps _ s
  | eorIndX | eorZp | eorImm | eorAbs | eorIndY | eorZpInd | eorZpX | eorAbsY | eorAbsX =>
    cases h; exact eorA_keeps _ s
  | txa | tya | incA | decA | aslA | lsrA | rolA | rorA => cases h; exact keeps_of_writeA s ..
  -- X and Y (R32, R33)
  | ldxImm | ldxZp | ldxAbs | ldxZpY | ldxAbsY => cases h; exact ldx_keeps _ s
  | tax | tsx | inx | dex => cases h; exact keeps_of_writeX s ..
  | ldyImm | ldyZp | ldyAbs | ldyZpX | ldyAbsX => cases h; exact ldy_keeps _ s
  | tay | iny | dey => cases h; exact keeps_of_writeY s ..
  -- SP, with a register where one is pulled (R34, R234 to R236)
  | pla => cases h; exact ⟨.inl (by decide), .inr rfl, .inr rfl, .inl (by decide), .inr rfl, rfl, id⟩
  | plx => cases h; exact ⟨.inr rfl, .inl (by decide), .inr rfl, .inl (by decide), .inr rfl, rfl, id⟩
  | ply => cases h; exact ⟨.inr rfl, .inr rfl, .inl (by decide), .inl (by decide), .inr rfl, rfl, id⟩
  | txs | plp => cases h; exact keeps_of_writeSp s _ _ _ id
  | pha | phx | phy | php => cases h; exact push_keeps s _
  -- SP and PC (R34, R35)
  | jsr => cases h; exact jsr_keeps s _
  | rts => cases h; exact rts_keeps s
  | rti => cases h; exact returnFromException_keeps s
  | brk => cases h; exact brk_keeps s
  -- PC (R35)
  | jmpAbs | jmpInd | jmpAbsIndX => cases h; exact jmp_keeps _ s
  | bcc | bcs | beq | bne | bmi | bpl | bvc | bvs => cases h; exact branchIf_keeps s _ _ _
  | bra => cases h; exact branchAlways_keeps s _
  | bbr0 | bbr1 | bbr2 | bbr3 | bbr4 | bbr5 | bbr6 | bbr7 | bbs0 | bbs1 | bbs2 | bbs3 | bbs4 | bbs5 | bbs6 | bbs7 =>
    cases h; exact branchOnBit_keeps s _ _ _ _
  -- no register, memory at most
  | staIndX | staZp | staAbs | staIndY | staZpInd | staZpX | staAbsY | staAbsX | stxZp | stxAbs | stxZpY | styZp
  | styAbs | styZpX | stzZp | stzZpX | stzAbs | stzAbsX => cases h; exact storeByte_keeps _ s _
  | cmpIndX | cmpZp | cmpImm | cmpAbs | cmpIndY | cmpZpInd | cmpZpX | cmpAbsY | cmpAbsX =>
    cases h; exact cmp_keeps _ s
  | cpxImm | cpxZp | cpxAbs => cases h; exact cpx_keeps _ s
  | cpyImm | cpyZp | cpyAbs => cases h; exact cpy_keeps _ s
  | bitZp | bitAbs | bitZpX | bitAbsX | bitImm => cases h; exact bitTest_keeps _ s
  | incZp | incAbs | incZpX | incAbsX => cases h; exact incMem_keeps _ s nofun
  | decZp | decAbs | decZpX | decAbsX => cases h; exact decMem_keeps _ s nofun
  | aslZp | aslAbs | aslZpX | aslAbsX | lsrZp | lsrAbs | lsrZpX | lsrAbsX | rolZp | rolAbs | rolZpX | rolAbsX
  | rorZp | rorAbs | rorZpX | rorAbsX => cases h; exact shiftMem_keeps _ s _ nofun
  | tsbZp | tsbAbs => cases h; exact tsb_keeps _ s nofun
  | trbZp | trbAbs => cases h; exact trb_keeps _ s nofun
  | rmb0 | rmb1 | rmb2 | rmb3 | rmb4 | rmb5 | rmb6 | rmb7 => cases h; exact rmb_keeps s _ _
  | smb0 | smb1 | smb2 | smb3 | smb4 | smb5 | smb6 | smb7 => cases h; exact smb_keeps s _ _
  | nop02 | nop22 | nop42 | nop44 | nop54 | nop5C | nop62 | nop82 | nopC2 | nopD4 | nopDC | nopE2 | nopF4 | nopFC =>
    cases h; exact discardOperand_keeps _ s
  | clc | sec | cli | sei | cld | sed | clv => cases h; exact keeps_of_noRegister s _ _ _ id
  -- the wait and the halt (R390, R392)
  | wai | stp => cases h; exact ⟨.inr rfl, .inr rfl, .inr rfl, .inr rfl, .inr rfl, rfl, id⟩
  -- nothing at all
  | nop | nop03 | nop0B | nop13 | nop1B | nop23 | nop2B | nop33 | nop3B | nop43 | nop4B | nop53 | nop5B | nop63
  | nop6B | nop73 | nop7B | nop83 | nop8B | nop93 | nop9B | nopA3 | nopAB | nopB3 | nopBB | nopC3 | nopD3 | nopE3
  | nopEB | nopF3 | nopFB => cases h; exact keeps_of_noRegister s _ _ _ id

/-- The frame of the registers, one register at a time. -/
theorem Keeps.regValue_eq {written : List Reg} {waits halts : Bool} {s t : State} (h : Keeps written waits halts s t)
    {r : Reg} (hr : r ∉ written) : regValue r t = regValue r s := by
  cases r with
  | a => exact congrArg BitVec.toNat (h.a.resolve_left hr)
  | x => exact congrArg BitVec.toNat (h.x.resolve_left hr)
  | y => exact congrArg BitVec.toNat (h.y.resolve_left hr)
  | sp => exact congrArg BitVec.toNat (h.sp.resolve_left hr)
  | pc => exact congrArg BitVec.toNat (h.pc.resolve_left hr)

/-- Settles O24: the registers of an instruction's frame. -/
theorem registerFrame : Obligations.RegisterFrame := by
  unfold Obligations.RegisterFrame
  intro i s t r h hr
  exact (exec_keeps h).regValue_eq hr

end Sys2Proof.Proofs
end

section
/-! PROOFS. What a step can leave, said once for the whole driver, and the invariants that follow from it. -/

namespace Sys2Proof.Proofs

open Sys2Proof.Machine Sys2Proof.Laws

/-! ### What a frame says of the fields no instruction writes -/

section
variable {written : List Reg} {waits halts : Bool} {s t : State} (h : Keeps written waits halts s t)
include h

theorem Keeps.variant : t.variant = s.variant := by rw [h.control]
theorem Keeps.started : t.started = s.started := by rw [h.control]
theorem Keeps.resetPending : t.resetPending = s.resetPending := by rw [h.control]
theorem Keeps.nmiPending : t.nmiPending = s.nmiPending := by rw [h.control]
theorem Keeps.irqPending : t.irqPending = s.irqPending := by rw [h.control]
theorem Keeps.waiting : t.waiting = (waits || s.waiting) := by rw [h.control]

end

/-! ### The fetch -/

/-- The first byte of an encoding is the opcode byte (R120). -/
theorem opcode_of_encode {i : Instr} {b : Byte} {rest : List Byte} (h : encode i = b :: rest) : i.opcode = b := by
  rw [Instr.opcode, h]; rfl

/-- A fetch that finds no instruction has read the opcode byte (R121, R393). -/
theorem fetchedBytes_of_undefined {s u : State} (h : fetchInstr s = .undefined u) : u = State.fetchedBytes 1 s := by
  rw [fetchInstr_eq] at h
  cases hf : opForm s.variant (s.peek s.pc) with
  | none => rw [hf] at h; cases h; rfl
  | some f => rw [hf] at h; cases f <;> cases h

/-- A fetch that finds an instruction has read its bytes, and the variant has a row for its opcode byte (R413,
R122). -/
theorem fetchedBytes_of_instr {s u : State} {i : Instr} (h : fetchInstr s = .instr i u) :
    (∃ n, u = State.fetchedBytes n s) ∧ (opForm s.variant i.opcode).isSome = true := by
  rw [fetchInstr_eq] at h
  cases hf : opForm s.variant (s.peek s.pc) with
  | none => rw [hf] at h; cases h
  | some f =>
    have hrow := rowEncodes_of_opForm _ _ _ hf
    have hop : i.opcode = s.peek s.pc := by
      cases f <;> rw [hf] at h <;> cases h <;> exact opcode_of_encode (hrow ..)
    refine ⟨?_, by rw [hop, hf]; rfl⟩
    cases f <;> rw [hf] at h <;> cases h <;> exact ⟨_, rfl⟩

/-! ### The outcomes of a step -/

/-- What a step from `s` can leave (R410, R413, R415, R420): nothing done while halted or waiting, one cycle counted
down, the reset, an entry, the halt of an undefined byte, or an instruction that the variant has, run once its bytes are
read and the wait has ended. -/
inductive StepOutcome (s : State) : State → Prop where
  | idle : StepOutcome s s
  | countDown : StepOutcome s s.tick
  | reset (hr : s.resetPending = true) : StepOutcome s s.resetWithBudget.tick
  | nmi (hr : s.resetPending = false) (hn : s.nmiPending = true) : StepOutcome s s.nmiEntry.tick
  | irq (hr : s.resetPending = false) (hn : s.nmiPending = false) (hi : s.irqPending = true)
      (hmask : s.flag .i = false) : StepOutcome s s.irqEntry.tick
  | undefined (pc : Word) (bus : List Access) :
      StepOutcome s { s with waiting := false, pc := pc, bus := bus, halted := true }
  | instr (pc : Word) (bus : List Access) (cost : Nat) {i : Instr} {u : State}
      (hrow : (opForm s.variant i.opcode).isSome = true)
      (hx : exec i { s with waiting := false, pc := pc, bus := bus } = .next u) : StepOutcome s (u.charge cost).tick

/-- A dispatch halts on an undefined byte or runs an instruction. -/
theorem dispatch_outcome {s t : State} (h : dispatch { s with waiting := false } = .next t) : StepOutcome s t := by
  rcases dispatch_cases h with ⟨u, hu, rfl⟩ | ⟨i, u, w, hu, hx, rfl⟩
  · rw [fetchedBytes_of_undefined hu, fetchedBytes_eq]
    exact .undefined ..
  · obtain ⟨⟨n, rfl⟩, hrow⟩ := fetchedBytes_of_instr hu
    rw [fetchedBytes_eq] at hx
    exact .instr _ _ _ hrow hx

/-- A step that answers has one of the outcomes, and a reset has run before it. -/
theorem step_outcome {s t : State} (h : step s = .next t) : s.started = true ∧ StepOutcome s t := by
  obtain ⟨hs, h⟩ := step_cases h
  refine ⟨hs, ?_⟩
  rcases h with ⟨-, -, rfl⟩ | ⟨-, hr, rfl⟩ | ⟨-, -, rfl⟩ | ⟨-, -, h⟩
  · exact .idle
  · exact .reset hr
  · exact .countDown
  rcases transition_cases h with
    ⟨hr, rfl⟩ | ⟨hr, hn, rfl⟩ | ⟨hr, hn, hi, hmask, rfl⟩ | ⟨-, -, -, -, rfl⟩ | ⟨-, -, h⟩
  · exact .reset hr
  · exact .nmi hr hn
  · exact .irq hr hn hi hmask
  · exact .idle
  · exact dispatch_outcome h

/-! ### Bits 4 and 5 of P -/

/-- A flag after the reset sequence (R462). -/
theorem getFlag_resetStatus (f : Flag) (v : Variant) (p : Byte) :
    getFlag f (resetStatus v p) =
      if f = .i ∨ f = .u then true else if f = .d ∧ v = .wdc65c02 then false else getFlag f p := by
  cases f <;> cases v <;> simp [resetStatus]

/-- Only PLP and RTI write B or U (R38, R39). -/
theorem notMem_flagsWritten_of_not_pull {i : Instr} (hplp : i ≠ .plp) (hrti : i ≠ .rti) :
    Flag.b ∉ flagsWritten i ∧ Flag.u ∉ flagsWritten i := by
  cases i with
  | plp => exact absurd rfl hplp
  | rti => exact absurd rfl hrti
  | _ => simp [flagsWritten]

/-- PLP and RTI leave a pulled P (R237, R323). -/
theorem pulledStatus_of_exec_pull {s t : State} (h : exec .plp s = .next t ∨ exec .rti s = .next t) :
    ∃ v, t.p = pulledStatus v := by
  rcases h with h | h
  · cases h; exact ⟨_, rfl⟩
  · cases h; exact ⟨_, congrArg State.p (returnFromException_eq s)⟩

/-- An instruction pulls P or leaves B and U as they were (R37 to R39). -/
theorem exec_break_unused {i : Instr} {s t : State} (h : exec i s = .next t) :
    (∃ v, t.p = pulledStatus v) ∨ (t.flag .b = s.flag .b ∧ t.flag .u = s.flag .u) := by
  by_cases hplp : i = .plp
  · subst hplp; exact .inl (pulledStatus_of_exec_pull (.inl h))
  by_cases hrti : i = .rti
  · subst hrti; exact .inl (pulledStatus_of_exec_pull (.inr h))
  obtain ⟨hb, hu⟩ := notMem_flagsWritten_of_not_pull hplp hrti
  exact .inr ⟨flagFrame i s t _ h hb, flagFrame i s t _ h hu⟩


/-! ### The invariant -/

/-- Settles O20: the reset state's fields. -/
theorem resetMeetsInvariant : Obligations.ResetMeetsInvariant := by
  unfold Obligations.ResetMeetsInvariant
  exact ⟨wf_reset, fun _ => by decide, nofun⟩

/-- The invariant speaks of five fields alone. -/
theorem inv_congr {s t : State} (h : Inv s) (hm : t.mem = s.mem) (hp : t.p = s.p) (hs : t.started = s.started)
    (hv : t.variant = s.variant) (hw : t.waiting = true → s.waiting = true) : Inv t where
  memory := hm ▸ h.memory
  unused hst := (congrArg (getFlag .u) hp).trans (h.unused (hs ▸ hst))
  noWaitOnNmos hn := by
    have := h.noWaitOnNmos (hv ▸ hn)
    cases ht : t.waiting with
    | false => rfl
    | true => rw [hw ht] at this; cases this

/-- WAI has a row on WDC65C02 alone (R130, R390). -/
theorem ne_wai_of_row_nmos {i : Instr} (h : (opForm .nmos i.opcode).isSome = true) : i ≠ .wai := by
  rintro rfl
  rw [OpcodeRow.wai.2] at h
  cases h

/-- An instruction the variant has keeps the invariant. -/
theorem exec_keepsInv {i : Instr} {s t : State} (hs : Inv s) (hrow : (opForm s.variant i.opcode).isSome = true)
    (h : exec i s = .next t) : Inv t := by
  have hk := exec_keeps h
  refine ⟨hk.canonical hs.memory, fun hst => ?_, fun hn => ?_⟩
  · rcases exec_break_unused h with ⟨v, hv⟩ | ⟨-, hu⟩
    · rw [State.flag, hv, getFlag_pulledStatus]; rfl
    · rw [hu]; exact hs.unused (hk.started ▸ hst)
  · have hn' : s.variant = .nmos := hk.variant ▸ hn
    rw [hk.waiting, hs.noWaitOnNmos hn', decide_eq_false (ne_wai_of_row_nmos (hn' ▸ hrow))]
    rfl

/-- An entry to a handler keeps U (R324, R414). -/
theorem flag_u_entryStatus (v : Variant) (p : Byte) : getFlag .u (entryStatus v p) = getFlag .u p :=
  getFlag_entryStatus_of_notMem (by decide) v p

/-- Settles O19: by the outcomes of a step; what is stored stays canonical, the ways to compute P keep or set U, and no
outcome begins a wait but WAI, which NMOS does not have. -/
theorem stepKeepsInvariant : Obligations.StepKeepsInvariant := by
  unfold Obligations.StepKeepsInvariant
  intro s t hs h
  obtain ⟨hst, ho⟩ := step_outcome h
  cases ho with
  | idle => exact hs
  | countDown => exact inv_congr hs rfl rfl rfl rfl id
  | reset =>
    rw [resetWithBudget_tick_eq]
    exact ⟨hs.memory, fun _ => by simp [State.flag, getFlag_resetStatus], fun _ => rfl⟩
  | nmi =>
    rw [nmiEntry_tick_eq]
    exact ⟨wf_pushedFrameMem hs.memory _ _, fun h => (flag_u_entryStatus ..).trans (hs.unused h), fun _ => rfl⟩
  | irq =>
    rw [irqEntry_tick_eq]
    exact ⟨wf_pushedFrameMem hs.memory _ _, fun h => (flag_u_entryStatus ..).trans (hs.unused h), fun _ => rfl⟩
  | undefined => exact inv_congr hs rfl rfl rfl rfl nofun
  | instr pc bus cost hrow hx =>
    have hstart : Inv { s with waiting := false, pc := pc, bus := bus } := inv_congr hs rfl rfl rfl rfl nofun
    exact inv_congr (exec_keepsInv hstart hrow hx) rfl rfl rfl rfl id

/-! ### The request latches -/

/-- A step keeps the three request latches or serves one of them (R415, R416). -/
theorem step_latches {s t : State} (h : step s = .next t) :
    (t.resetPending = s.resetPending ∧ t.nmiPending = s.nmiPending ∧ t.irqPending = s.irqPending) ∨
    t = s.resetWithBudget.tick ∨ (s.resetPending = false ∧ t = s.nmiEntry.tick) ∨
    (s.resetPending = false ∧ s.nmiPending = false ∧ s.flag .i = false ∧ t = s.irqEntry.tick) := by
  obtain ⟨-, ho⟩ := step_outcome h
  cases ho with
  | idle | countDown | undefined => exact .inl ⟨rfl, rfl, rfl⟩
  | reset => exact .inr (.inl rfl)
  | nmi hr hn => exact .inr (.inr (.inl ⟨hr, rfl⟩))
  | irq hr hn hi hmask => exact .inr (.inr (.inr ⟨hr, hn, hmask, rfl⟩))
  | instr pc bus cost hrow hx =>
    have hk := exec_keeps hx
    exact .inl ⟨hk.resetPending, hk.nmiPending, hk.irqPending⟩

/-- Settles O17: by the latch a step serves, if any; the entry's equation gives PC and SP. -/
theorem latchesClearedByTheirEntryOnly : Obligations.LatchesClearedByTheirEntryOnly := by
  unfold Obligations.LatchesClearedByTheirEntryOnly
  intro s t h
  rcases step_latches h with ⟨hr, hn, hi⟩ | rfl | ⟨hr, rfl⟩ | ⟨hr, hn, hmask, rfl⟩
  · rw [hr, hn, hi]
    simp +contextual
  · rw [resetWithBudget_tick_eq]
    simp +contextual
  · rw [nmiEntry_tick_eq]
    simp +contextual [hr]
  · rw [irqEntry_tick_eq]
    simp +contextual [hr, hn, hmask]

/-! ### The live Break bit -/

/-- Settles O27: by the outcomes of a step; the reset and the entries keep B, and an instruction keeps it or pulls a P
whose B is clear. -/
theorem liveBreakNeverSet : Obligations.LiveBreakNeverSet := by
  unfold Obligations.LiveBreakNeverSet
  refine ⟨fun s t h hb => ?_, fun s t h => ?_⟩
  · obtain ⟨-, ho⟩ := step_outcome h
    cases ho with
    | idle | countDown | undefined => exact hb
    | reset =>
      rw [resetWithBudget_tick_eq] at hb
      simpa [State.flag, getFlag_resetStatus] using hb
    | nmi =>
      rw [nmiEntry_tick_eq] at hb
      exact (getFlag_entryStatus_of_notMem (by decide) ..).symm.trans hb
    | irq =>
      rw [irqEntry_tick_eq] at hb
      exact (getFlag_entryStatus_of_notMem (by decide) ..).symm.trans hb
    | instr pc bus cost hrow hx =>
      rcases exec_break_unused hx with ⟨v, hv⟩ | ⟨hkept, -⟩
      · have hclear := congrArg (getFlag .b) hv
        rw [getFlag_pulledStatus] at hclear
        exact absurd (hclear.symm.trans hb) nofun
      · exact hkept.symm.trans hb
  · obtain ⟨v, hv⟩ := pulledStatus_of_exec_pull h
    rw [State.flag, hv, getFlag_pulledStatus]; rfl

/-! ### The reset and the construction -/

/-- Settles O5: the fields of `State.reset`, and the direct reset of a constructed core, evaluated. -/
theorem resetStateValues : Obligations.ResetStateValues := by
  unfold Obligations.ResetStateValues
  refine ⟨rfl, rfl, rfl, rfl, by decide, by decide, by decide, rfl, rfl, rfl, rfl, rfl, rfl, by decide, rfl, rfl, rfl,
    ?_⟩
  rw [State.hostReset, resetSequence_eq]
  rfl

/-- Settles O6: `resetSequence_eq` gives the state, `getFlag_resetStatus` each flag of its P. -/
theorem resetSequenceEffect : Obligations.ResetSequenceEffect := by
  unfold Obligations.ResetSequenceEffect
  intro s
  refine ⟨resetStatus s.variant s.p, ?_, resetSequence_eq s⟩
  simp [getFlag_resetStatus, State.flag]

/-- A step before the first reset is refused (R57). -/
theorem step_not_started {s : State} (h : s.started = false) : step s = .refused .stepBeforeReset := by
  rw [step, stepCore, h]; rfl

/-- The direct reset leaves cycles owed, on either variant (R461). -/
theorem hostReset_cycles_ne_zero (s : State) : s.hostReset.cycles ≠ 0 := by
  show resetCycles s.variant ≠ 0
  cases s.variant <;> decide

/-- Settles O9: construction's fields; `started` decides whether a step is refused, and the reset's budget is what the
first step after it counts down. -/
theorem stepBeforeResetRefused : Obligations.StepBeforeResetRefused := by
  unfold Obligations.StepBeforeResetRefused
  intro v u
  exact ⟨rfl, rfl, rfl, rfl, rfl, rfl, rfl, rfl, rfl, step_not_started rfl, step_not_started rfl,
    _, step_owing rfl rfl (hostReset_cycles_ne_zero _)⟩

end Sys2Proof.Proofs
end

section
/-! PROOFS. Memory and the Bus: the accesses an instruction and a step make (R87, R90, R96), the frame of memory that
follows from them (R82, R95), and a store followed by a load of the same address (R201, R204). -/

namespace Sys2Proof.Proofs

open Sys2Proof.Machine Sys2Proof.Laws

/-- What the Bus shows of a run from `s` to `t`: exactly these accesses, in order, are made, memory is what they leave,
and each read is answered (R87, R90). -/
structure Follows (accesses : List Access) (s t : State) : Prop where
  bus : t.bus = s.bus ++ accesses
  mem : t.mem = (applyAccesses accesses s).mem
  answered : readsAnswered accesses s

/-- The address an access stores to. -/
def storedAddr : Access → Option Word
  | .read _ _ => none
  | .write addr _ => some addr

/-- The addresses a list of accesses stores to, in order. -/
def storesOf (accesses : List Access) : List Word := accesses.filterMap storedAddr

/-! ### The accesses of one operation after another's -/

/-- A run that makes no access. -/
theorem follows_nil {s t : State} (hb : t.bus = s.bus) (hm : t.mem = s.mem) : Follows [] s t :=
  ⟨by simp [hb], hm, trivial⟩

/-- One run after another makes the accesses of both. -/
theorem Follows.trans {first second : List Access} {s u t : State} (h₁ : Follows first s u)
    (h₂ : Follows second u t) (hmap : u.map = s.map) (hans : u.answers = s.answers) :
    Follows (first ++ second) s t := by
  obtain ⟨hbus, hmap', hans'⟩ := applyAccesses_spec h₁.answered
  have hreads : u.deviceReads = (applyAccesses first s).deviceReads := by
    rw [State.deviceReads, State.deviceReads, h₁.bus, hbus, hmap, hmap']
  obtain ⟨hmem, hanswered⟩ :=
    accesses_congr (acc := second) (hmap.trans hmap'.symm) (hans.trans hans'.symm) hreads h₁.mem
  refine ⟨by rw [h₂.bus, h₁.bus, List.append_assoc], ?_, ?_⟩
  · rw [h₂.mem, hmem, applyAccesses_append]
  · exact (readsAnswered_append ..).2 ⟨h₁.answered, hanswered.1 h₂.answered⟩

/-- Reads made one after the other. -/
theorem follows_readsOf {l : List Word} {s t : State} (hb : t.bus = s.bus ++ readsOf l s) (hm : t.mem = s.mem) :
    Follows (readsOf l s) s t := by
  obtain ⟨hanswered, happly, -⟩ := readsOf_spec l s
  exact ⟨hb, by rw [hm, happly], hanswered⟩

/-- An entry to a handler makes five accesses (R414). -/
@[simp] theorem length_entryAccesses (w : Word) (status : Byte) (vector : Word) (s : State) :
    (entryAccesses w status vector s).length = 5 := rfl

/-- The three pushes of an entry to a handler are three writes (R414). -/
theorem follows_pushFrame (s : State) (w : Word) (status : Byte) :
    Follows [.write (stackAddr s.sp) (hi w), .write (stackAddr (s.sp - 1#8)) (lo w),
      .write (stackAddr (s.sp - 2#8)) status] s ((s.pushWord w).push status) := by
  rw [pushFrame_eq]
  exact ⟨rfl, rfl, trivial⟩

/-- The pushes leave alone what a vector outside page 1 reads as. -/
theorem readsOf_vector_pushFrame (s : State) (w : Word) (status : Byte) {vector : Word} (h₀ : hi vector ≠ 0x01#8)
    (h₁ : hi (vector + 1#16) ≠ 0x01#8) :
    readsOf [vector, vector + 1#16] ((s.pushWord w).push status) = readsOf [vector, vector + 1#16] s := by
  refine readsOf_congr rfl rfl ?_ fun addr haddr => ?_
  · rw [pushFrame_eq]
    simp [State.deviceReads, List.countP_append, isDeviceRead]
  · rw [pushFrame_eq]
    refine read_pushedFrame s w status addr ?_
    rcases List.mem_pair.1 haddr with rfl | rfl <;> assumption

/-- The entry to a handler through a vector outside page 1 (R414): the pushes, then the reads of the vector. -/
theorem follows_entryAccesses {w vector : Word} {status : Byte} {s t : State} (h₀ : hi vector ≠ 0x01#8)
    (h₁ : hi (vector + 1#16) ≠ 0x01#8) (hb : t.bus = s.bus ++ entryAccesses w status vector s)
    (hm : t.mem = pushedFrameMem w status s) : Follows (entryAccesses w status vector s) s t := by
  have hpush := follows_pushFrame s w status
  have hvector := readsOf_vector_pushFrame s w status h₀ h₁
  have hread : Follows (readsOf [vector, vector + 1#16] ((s.pushWord w).push status)) _ t :=
    follows_readsOf (by rw [hvector, hb, hpush.bus, entryAccesses, List.append_assoc]) (by rw [hm, pushFrame_eq])
  exact hpush.trans (hvector ▸ hread) rfl rfl

/-! ### The reads of an operand -/

/-- Reads of two lists of addresses, one after the other. -/
theorem readsOf_append (a b : List Word) (s : State) :
    readsOf (a ++ b) s = readsOf a s ++ readsOf b { s with bus := s.bus ++ readsOf a s } := by
  induction a generalizing s with
  | nil => simp
  | cons addr rest ih => simp [ih, State.noteRead]

/-- Reads store nothing. -/
@[simp] theorem storesOf_readsOf (l : List Word) (s : State) : storesOf (readsOf l s) = [] := by
  induction l generalizing s with
  | nil => rfl
  | cons addr rest ih => exact ih _

/-- A mode reads at most two pointer bytes (R171 to R175). -/
theorem length_pointerAddrs_le (m : Mode) (s : State) : (pointerAddrs m s).length ≤ 2 := by
  cases m <;> simp [pointerAddrs]

/-- The accesses of an operand are reads, at most three (R96). -/
theorem operandReads_eq_readsOf (m : Mode) (s : State) :
    ∃ l : List Word, l.length ≤ 3 ∧ operandReads m s = readsOf l s := by
  by_cases hm : ∃ v, m = .imm v
  · obtain ⟨v, rfl⟩ := hm
    exact ⟨[], by decide, rfl⟩
  · have hm' : ∀ v, m ≠ .imm v := fun v e => hm ⟨v, e⟩
    have hlen := length_pointerAddrs_le m s
    refine ⟨pointerAddrs m s ++ [effectiveAddr m s], by simp; omega, ?_⟩
    rw [operandReads_eq m s hm', operandByte_eq m s hm', readsOf_append]
    rfl

/-! ### What each shape of instruction does on the Bus -/

/-- What an instruction does on the Bus, from `s` to `t`, when it stores to the addresses `stored`: memory follows at
most five accesses (R96). -/
def Traffic (stored : List Word) (s t : State) : Prop :=
  ∃ accesses, Follows accesses s t ∧ accesses.length ≤ 5 ∧ storesOf accesses = stored

section
variable {s t u : State} {m : Mode} {v : Byte}

theorem traffic_of_silent (hb : t.bus = s.bus) (hm : t.mem = s.mem) : Traffic [] s t :=
  ⟨[], follows_nil hb hm, by decide, rfl⟩

theorem traffic_of_reads (l : List Word) (hl : l.length ≤ 3) (hb : t.bus = s.bus ++ readsOf l s)
    (hm : t.mem = s.mem) : Traffic [] s t := by
  obtain ⟨-, -, hlen⟩ := readsOf_spec l s
  exact ⟨readsOf l s, follows_readsOf hb hm, by omega, storesOf_readsOf l s⟩

/-- Reads, then one store. -/
theorem traffic_of_readsThenWrite (l : List Word) {addr : Word} (hl : l.length ≤ 3)
    (hb : t.bus = s.bus ++ (readsOf l s ++ [.write addr v])) (hm : t.mem = busWrite s.map s.mem addr v) :
    Traffic [addr] s t := by
  obtain ⟨hanswered, happly, hlen⟩ := readsOf_spec l s
  refine ⟨readsOf l s ++ [.write addr v], ⟨hb, ?_, ?_⟩, ?_, ?_⟩
  · rw [hm, applyAccesses_append, happly]; rfl
  · exact (readsAnswered_append ..).2 ⟨hanswered, trivial⟩
  · simp; omega
  · rw [storesOf, List.filterMap_append]
    exact congrArg (· ++ [addr]) (storesOf_readsOf l s)

/-- A load, or arithmetic with an operand of mode `m`. -/
theorem traffic_of_operand (h : t = u) (hb : u.bus = s.bus ++ operandReads m s) (hm : u.mem = s.mem) :
    Traffic [] s t := by
  obtain ⟨l, hl, hreads⟩ := operandReads_eq_readsOf m s
  exact h ▸ traffic_of_reads l hl (hreads ▸ hb) hm

/-- A store (R200). -/
theorem storeByte_traffic (m : Mode) (v : Byte) (s : State) : Traffic [effectiveAddr m s] s (storeByte m v s) := by
  rw [storeByte_eq]
  exact traffic_of_readsThenWrite _ (Nat.le_succ_of_le (length_pointerAddrs_le m s)) rfl rfl

/-- A read-modify-write (R284). -/
theorem traffic_of_modify (h : t = u) (hb : u.bus = s.bus ++ modifyAccesses m v s) (hm : u.mem = storedMem m v s) :
    Traffic [effectiveAddr m s] s t := by
  obtain ⟨l, hl, hreads⟩ := operandReads_eq_readsOf m s
  rw [modifyAccesses, hreads] at hb
  exact h ▸ traffic_of_readsThenWrite l hl hb hm

end

section
variable (s : State)

theorem push_traffic (v : Byte) : Traffic [stackAddr s.sp] s (s.push v) :=
  traffic_of_readsThenWrite [] (by decide) rfl rfl

theorem jsr_traffic (w : Word) : Traffic [stackAddr s.sp, stackAddr (s.sp - 1#8)] s (jsr (.abs w) s) := by
  rw [jsr_eq]
  exact ⟨_, ⟨rfl, rfl, trivial⟩, by simp, rfl⟩

theorem brk_traffic :
    Traffic [stackAddr s.sp, stackAddr (s.sp - 1#8), stackAddr (s.sp - 2#8)] s (brk s) := by
  rw [brk_eq]
  exact ⟨_, follows_entryAccesses (by decide) (by decide) rfl rfl, by simp, rfl⟩

theorem rts_traffic : Traffic [] s (rts s) := by
  rw [rts_eq]; exact traffic_of_reads [_, _] (by simp) rfl rfl

theorem returnFromException_traffic : Traffic [] s s.returnFromException := by
  rw [returnFromException_eq]; exact traffic_of_reads [_, _, _] (by simp) rfl rfl

theorem jmp_traffic (m : Mode) : Traffic [] s (jmp m s) := by
  rw [jmp_eq]; exact traffic_of_reads _ (Nat.le_succ_of_le (length_pointerAddrs_le m s)) rfl rfl

theorem discardOperand_traffic (m : Mode) : Traffic [] s (discardOperand m s) := by
  rw [discardOperand, resolve_st]
  exact traffic_of_reads _ (Nat.le_succ_of_le (length_pointerAddrs_le m s)) rfl rfl

theorem branchIf_traffic (f : Flag) (sense : Bool) (off : Byte) : Traffic [] s (branchIf f sense off s) := by
  rw [branchIf_eq]; split <;> exact traffic_of_silent rfl rfl

theorem branchAlways_traffic (off : Byte) : Traffic [] s (branchAlways off s) := by
  rw [branchAlways_eq]; exact traffic_of_silent rfl rfl

theorem branchOnBit_traffic (n : Nat) (sense : Bool) (zp off : Byte) :
    Traffic [] s (branchOnBit n sense zp off s) := by
  rw [branchOnBit_eq]; split <;> exact traffic_of_reads [_] (by simp) rfl rfl

end

/-- Memory follows the accesses of an instruction, of which there are at most five, and the addresses it stores to are
its `storedBytes`, in order (R82, R96). -/
theorem exec_traffic {i : Instr} {s t : State} (h : exec i s = .next t) : Traffic (storedBytes i s) s t := by
  cases i with
  -- one operand read (R201 to R203, R250 to R254, R300 to R303)
  | ldaIndX | ldaZp | ldaImm | ldaAbs | ldaIndY | ldaZpInd | ldaZpX | ldaAbsY | ldaAbsX =>
    cases h; exact traffic_of_operand (lda_eq _ s) rfl rfl
  | ldxImm | ldxZp | ldxAbs | ldxZpY | ldxAbsY => cases h; exact traffic_of_operand (ldx_eq _ s) rfl rfl
  | ldyImm | ldyZp | ldyAbs | ldyZpX | ldyAbsX => cases h; exact traffic_of_operand (ldy_eq _ s) rfl rfl
  | adcIndX | adcZp | adcImm | adcAbs | adcIndY | adcZpInd | adcZpX | adcAbsY | adcAbsX =>
    cases h; exact traffic_of_operand (adc_eq _ s) rfl rfl
  | sbcIndX | sbcZp | sbcImm | sbcAbs | sbcIndY | sbcZpInd | sbcZpX | sbcAbsY | sbcAbsX =>
    cases h; exact traffic_of_operand (sbc_eq _ s) rfl rfl
  | cmpIndX | cmpZp | cmpImm | cmpAbs | cmpIndY | cmpZpInd | cmpZpX | cmpAbsY | cmpAbsX =>
    cases h; exact traffic_of_operand (cmp_eq _ s) rfl rfl
  | cpxImm | cpxZp | cpxAbs => cases h; exact traffic_of_operand (cpx_eq _ s) rfl rfl
  | cpyImm | cpyZp | cpyAbs => cases h; exact traffic_of_operand (cpy_eq _ s) rfl rfl
  | andIndX | andZp | andImm | andAbs | andIndY | andZpInd | andZpX | andAbsY | andAbsX =>
    cases h; exact traffic_of_operand (andA_eq _ s) rfl rfl
  | oraIndX | oraZp | oraImm | oraAbs | oraIndY | oraZpInd | oraZpX | oraAbsY | oraAbsX =>
    cases h; exact traffic_of_operand (oraA_eq _ s) rfl rfl
  | eorIndX | eorZp | eorImm | eorAbs | eorIndY | eorZpInd | eorZpX | eorAbsY | eorAbsX =>
    cases h; exact traffic_of_operand (eorA_eq _ s) rfl rfl
  | bitZp | bitAbs | bitZpX | bitAbsX | bitImm => cases h; exact traffic_of_operand (bitTest_eq _ s) rfl rfl
  -- one store (R204 to R207)
  | staIndX | staZp | staAbs | staIndY | staZpInd | staZpX | staAbsY | staAbsX | stxZp | stxAbs | stxZpY | styZp
  | styAbs | styZpX | stzZp | stzZpX | stzAbs | stzAbsX => cases h; exact storeByte_traffic _ _ s
  -- a read and a store of one address (R270, R271, R280 to R283, R304, R305, R370, R371)
  | incZp | incAbs | incZpX | incAbsX => cases h; exact traffic_of_modify (incMem_eq _ s nofun) rfl rfl
  | decZp | decAbs | decZpX | decAbsX => cases h; exact traffic_of_modify (decMem_eq _ s nofun) rfl rfl
  | aslZp | aslAbs | aslZpX | aslAbsX | lsrZp | lsrAbs | lsrZpX | lsrAbsX | rolZp | rolAbs | rolZpX | rolAbsX
  | rorZp | rorAbs | rorZpX | rorAbsX => cases h; exact traffic_of_modify (shiftMem_eq _ _ s nofun) rfl rfl
  | tsbZp | tsbAbs => cases h; exact traffic_of_modify (tsb_eq _ s nofun) rfl rfl
  | trbZp | trbAbs => cases h; exact traffic_of_modify (trb_eq _ s nofun) rfl rfl
  | rmb0 | rmb1 | rmb2 | rmb3 | rmb4 | rmb5 | rmb6 | rmb7 => cases h; exact traffic_of_modify (rmb_eq _ _ s) rfl rfl
  | smb0 | smb1 | smb2 | smb3 | smb4 | smb5 | smb6 | smb7 => cases h; exact traffic_of_modify (smb_eq _ _ s) rfl rfl
  -- the stack (R230 to R237, R321 to R324)
  | pha | phx | phy | php => cases h; exact push_traffic s _
  | pla | plx | ply | plp => cases h; exact traffic_of_reads [_] (by simp) rfl rfl
  | jsr => cases h; exact jsr_traffic s _
  | rts => cases h; exact rts_traffic s
  | rti => cases h; exact returnFromException_traffic s
  | brk => cases h; exact brk_traffic s
  -- pointers and tested bytes (R320, R330 to R339, R372, R373)
  | jmpAbs | jmpInd | jmpAbsIndX => cases h; exact jmp_traffic s _
  | bcc | bcs | beq | bne | bmi | bpl | bvc | bvs => cases h; exact branchIf_traffic s _ _ _
  | bra => cases h; exact branchAlways_traffic s _
  | bbr0 | bbr1 | bbr2 | bbr3 | bbr4 | bbr5 | bbr6 | bbr7 | bbs0 | bbs1 | bbs2 | bbs3 | bbs4 | bbs5 | bbs6 | bbs7 =>
    cases h; exact branchOnBit_traffic s _ _ _ _
  | nop02 | nop22 | nop42 | nop44 | nop54 | nop5C | nop62 | nop82 | nopC2 | nopD4 | nopDC | nopE2 | nopF4 | nopFC =>
    cases h; exact discardOperand_traffic s _
  -- no access
  | tax | tay | txa | tya | tsx | txs | inx | dex | iny | dey | incA | decA | aslA | lsrA | rolA | rorA
  | clc | sec | cli | sei | cld | sed | clv | wai | stp | nop | nop03 | nop0B | nop13 | nop1B | nop23 | nop2B | nop33
  | nop3B | nop43 | nop4B | nop53 | nop5B | nop63 | nop6B | nop73 | nop7B | nop83 | nop8B | nop93 | nop9B | nopA3
  | nopAB | nopB3 | nopBB | nopC3 | nopD3 | nopE3 | nopEB | nopF3 | nopFB => cases h; exact traffic_of_silent rfl rfl

/-! ### The frame of memory -/

/-- Accesses that store to no RAM at an address leave the byte there. -/
theorem read_applyAccesses {accesses : List Access} {s : State} {addr : Word}
    (h : s.kindAt addr = .ram → addr ∉ storesOf accesses) :
    Memory.read (applyAccesses accesses s).mem addr.toNat = Memory.read s.mem addr.toNat := by
  induction accesses generalizing s with
  | nil => rfl
  | cons access rest ih =>
    cases access with
    | read b v => exact ih (s := s.noteRead b) h
    | write b v =>
      have hrest : s.kindAt addr = .ram → addr ∉ storesOf rest := fun hk hmem => h hk (List.mem_cons_of_mem b hmem)
      refine (ih (s := s.memWrite b v) hrest).trans ?_
      by_cases hk : s.kindAt addr = .ram
      · exact read_busWrite_ne s.map s.mem v fun e => h hk (e ▸ List.mem_cons_self)
      · exact read_busWrite_not_ram s.map s.mem b v hk

/-- Settles O25: an instruction's stores on the Bus are its `storedBytes`, so the byte elsewhere stays; the platform
stays too, and what the Bus answers follows from both. -/
theorem memoryFrame : Obligations.MemoryFrame := by
  unfold Obligations.MemoryFrame
  intro i s t addr h hfree
  have hkeeps := (exec_keeps h).control
  have hmap : t.map = s.map := by rw [hkeeps]
  have hans : t.answers = s.answers := by rw [hkeeps]
  obtain ⟨accesses, hfollows, -, hstores⟩ := exec_traffic h
  have hread : Memory.read t.mem addr.toNat = Memory.read s.mem addr.toNat := by
    rw [hfollows.mem, read_applyAccesses (by rwa [hstores])]
  refine ⟨kindAt_congr hmap addr, hread, fun hreads => ?_⟩
  by_cases hk : s.kindAt addr = .device
  · exact peek_congr hmap hans (hreads hk) hread
  · exact peek_congr_memory hk hmap hread

/-! ### The accesses of a step -/

/-- The fetch of `n` instruction bytes makes `n` reads (R413, R96). -/
theorem fetchedBytes_follows (n : Nat) (s : State) :
    ∃ accesses, Follows accesses s (State.fetchedBytes n s) ∧ accesses.length = n := by
  obtain ⟨-, -, hlen⟩ := readsOf_spec ((List.range n).map fun k => s.pc + BitVec.ofNat 16 k) s
  exact ⟨_, follows_readsOf (fetchedBytes_bus n s) (by rw [fetchedBytes_eq]), by simpa using hlen⟩

/-- An instruction has at most three bytes (R122). -/
theorem fetchedBytes_le_three {s u : State} {i : Instr} (h : fetchInstr s = .instr i u) :
    ∃ n ≤ 3, u = State.fetchedBytes n s := by
  rw [fetchInstr_eq] at h
  cases hf : opForm s.variant (s.peek s.pc) with
  | none => rw [hf] at h; cases h
  | some f => rw [hf] at h; cases f <;> cases h <;> exact ⟨_, by decide, rfl⟩

/-- Memory follows the accesses of a dispatch: three of the fetch and five of the instruction at most (R413). -/
theorem dispatch_follows {s t : State} (h : dispatch s = .next t) :
    ∃ accesses, Follows accesses s t ∧ accesses.length ≤ 8 := by
  rcases dispatch_cases h with ⟨u, hu, rfl⟩ | ⟨i, u, w, hu, hx, rfl⟩
  · obtain rfl := fetchedBytes_of_undefined hu
    obtain ⟨fetched, hfetch, hlen⟩ := fetchedBytes_follows 1 s
    exact ⟨fetched, ⟨hfetch.bus, hfetch.mem, hfetch.answered⟩, by omega⟩
  · obtain ⟨n, hn, rfl⟩ := fetchedBytes_le_three hu
    obtain ⟨fetched, hfetch, hlen⟩ := fetchedBytes_follows n s
    obtain ⟨made, hmade, hlen', -⟩ := exec_traffic hx
    have hboth := hfetch.trans hmade (by rw [fetchedBytes_eq]) (by rw [fetchedBytes_eq])
    exact ⟨fetched ++ made, ⟨hboth.bus, hboth.mem, hboth.answered⟩, by simp; omega⟩

/-- A reset reads its vector and stores nothing (R462). -/
theorem resetWithBudget_follows (s : State) :
    ∃ accesses, Follows accesses s s.resetWithBudget.tick ∧ accesses.length ≤ 8 := by
  rw [resetWithBudget_tick_eq]
  exact ⟨readsOf [0xFFFC#16, 0xFFFD#16] s, follows_readsOf rfl rfl, by simp⟩

/-- Memory follows the accesses of a step, of which there are at most eight (R410). -/
theorem step_follows {s t : State} (h : step s = .next t) :
    ∃ accesses, Follows accesses s t ∧ accesses.length ≤ 8 := by
  obtain ⟨-, h⟩ := step_cases h
  rcases h with ⟨-, -, rfl⟩ | ⟨-, -, rfl⟩ | ⟨-, -, rfl⟩ | ⟨-, -, h⟩
  · exact ⟨[], follows_nil rfl rfl, by decide⟩
  · exact resetWithBudget_follows s
  · exact ⟨[], follows_nil rfl rfl, by decide⟩
  rcases transition_cases h with
    ⟨-, rfl⟩ | ⟨-, -, rfl⟩ | ⟨-, -, -, -, rfl⟩ | ⟨-, -, -, -, rfl⟩ | ⟨-, -, h⟩
  · exact resetWithBudget_follows s
  · rw [nmiEntry_tick_eq]
    exact ⟨_, follows_entryAccesses (by decide) (by decide) rfl rfl, by simp⟩
  · rw [irqEntry_tick_eq]
    exact ⟨_, follows_entryAccesses (by decide) (by decide) rfl rfl, by simp⟩
  · exact ⟨[], follows_nil rfl rfl, by decide⟩
  · obtain ⟨accesses, hfollows, hlen⟩ := dispatch_follows h
    have hwait : Follows [] s { s with waiting := false } := follows_nil rfl rfl
    exact ⟨[] ++ accesses, hwait.trans hfollows rfl rfl, hlen⟩

/-- A device whose answer the platform has given answers it (R80). -/
theorem peek_device_answered {s : State} {addr : Word} (hk : s.kindAt addr = .device)
    (h : s.deviceReads < s.answers.length) : s.peek addr = s.answers[s.deviceReads] := by
  rw [peek_device hk, State.deviceAnswer, List.getD_eq_getElem _ _ h]

/-- Settles O26: `step_follows` for the step, and the laws of one access for the platform. -/
theorem memoryFollowsTheBus : Obligations.MemoryFollowsTheBus := by
  unfold Obligations.MemoryFollowsTheBus
  refine ⟨fun s t h => ?_, fun s addr b v hwf => ?_⟩
  · obtain ⟨accesses, hfollows, hlen⟩ := step_follows h
    exact ⟨accesses, hfollows.bus, hfollows.mem, hfollows.answered, hlen⟩
  · refine ⟨peek_memWrite_same s addr v hwf, busWrite_not_ram s.mem v, peek_memWrite_ne s addr b v, ?_⟩
    exact fun h hk => ⟨peek_device_answered hk h, by rw [noteRead_deviceReads, if_pos hk]⟩

/-! ### A store and a load of the same address -/

/-- What the Bus answers away from devices after a store (R200): the byte stored at the effective address if that is
RAM, what it answered before everywhere else. -/
theorem peek_storeByte (m : Mode) (v : Byte) {s : State} {addr : Word} (hwf : Memory.wf s.mem = true)
    (hk : s.kindAt addr ≠ .device) :
    (storeByte m v s).peek addr =
      if addr = effectiveAddr m s ∧ s.kindAt addr = .ram then v else s.peek addr := by
  have hstore : storeByte m v s = (afterPointers m s).memWrite (effectiveAddr m s) v := by
    rw [storeByte, resolve_st]; rfl
  rw [hstore]
  split
  · next hram =>
    obtain ⟨rfl, hram⟩ := hram
    exact peek_memWrite_same (afterPointers m s) _ v hwf hram
  · next hother =>
    refine peek_congr_memory hk rfl ?_
    by_cases haddr : addr = effectiveAddr m s
    · exact read_busWrite_not_ram s.map s.mem _ v fun hram => hother ⟨haddr, hram⟩
    · exact read_busWrite_ne s.map s.mem v haddr

/-- The operand byte of Absolute mode is the one at its address (R168). -/
theorem operandByte_abs (w : Word) (s : State) : operandByte (.abs w) s = s.peek w := by
  simp [operandByte, effectiveAddr, resolve, resolvedAt, afterPointers, pointerReads, pointerAddrs]

/-- Every form of STA stores A at the effective address of its mode (R204). -/
theorem exec_of_mem_staForms {o : Byte} {w : Word} {f : Form} (hf : f ∈ staForms o w) (s : State) :
    exec f.instr s = .next (storeByte f.mode s.a s) := by
  simp only [staForms, List.mem_cons, List.not_mem_nil, or_false] at hf
  rcases hf with rfl | rfl | rfl | rfl | rfl | rfl | rfl | rfl <;> rfl

/-- Settles O34: `peek_storeByte` gives what the Bus answers after the store, and the load of the effective address
takes that. -/
theorem storeThenLoadReturnsValue : Obligations.StoreThenLoadReturnsValue := by
  unfold Obligations.StoreThenLoadReturnsValue
  intro o w s hwf f hf
  refine ⟨_, exec_of_mem_staForms hf s, fun addr hk => peek_storeByte f.mode s.a hwf hk, fun hram => ?_⟩
  have hstored : (storeByte f.mode s.a s).peek (effectiveAddr f.mode s) = s.a := by
    rw [peek_storeByte f.mode s.a hwf (by simp [hram]), if_pos ⟨rfl, hram⟩]
  have hloaded : operandByte (.abs (effectiveAddr f.mode s)) { storeByte f.mode s.a s with a := 0x00#8 } = s.a :=
    (operandByte_abs ..).trans hstored
  refine ⟨_, exec_ldaAbs .., ?_⟩
  rw [lda_eq, hloaded]
  exact ⟨rfl, by simp [State.flag], by simp [State.flag]⟩

end Sys2Proof.Proofs
end

section
/-! PROOFS. The decoder and the encoder (R120 to R123): what decoding answers, said once for both directions. -/

namespace Sys2Proof.Proofs

open Sys2Proof.Machine Sys2Proof.Laws

/-! ### What the decoder answers -/

/-- A row of the dispatch table builds an instruction from its operand bytes, which lie in ascending addresses, a 16-bit
operand low byte first (R83, R120, R122). -/
inductive Builds : OpForm → List Byte → Instr → Prop
  | f1 (i : Instr) : Builds (.f1 i) [] i
  | f2 (build : Byte → Instr) (o : Byte) : Builds (.f2 build) [o] (build o)
  | f3 (build : Word → Instr) (w : Word) : Builds (.f3 build) [lo w, hi w] (build w)
  | f3zr (build : Byte → Byte → Instr) (zp off : Byte) : Builds (.f3zr build) [zp, off] (build zp off)

/-- A row takes at most two operand bytes (R121). -/
theorem Builds.length_le {f : OpForm} {operands : List Byte} {i : Instr} (h : Builds f operands i) :
    operands.length ≤ 2 := by
  cases h <;> simp

/-- The decoder takes an opcode byte that has a row and the operand bytes from which the row builds the instruction, and
leaves what follows them. -/
theorem decode_eq_ok_iff {v : Variant} {bytes rest : List Byte} {i : Instr} :
    decode v bytes = .ok (i, rest) ↔
      ∃ b f operands, opForm v b = some f ∧ Builds f operands i ∧ bytes = b :: operands ++ rest := by
  constructor
  · intro h
    cases bytes with
    | nil => cases h
    | cons b tail =>
      simp only [decode] at h
      split at h
      case h_1 | h_6 => cases h -- no row, or too few bytes
      case h_2 hf => cases h; exact ⟨b, _, _, hf, .f1 i, rfl⟩
      case h_3 hf => cases h; exact ⟨b, _, _, hf, .f2 .., rfl⟩
      case h_4 low high _ hf => cases h; exact ⟨b, _, _, hf, .f3 _ (mkWord high low), by simp⟩
      case h_5 hf => cases h; exact ⟨b, _, _, hf, .f3zr .., rfl⟩
  · rintro ⟨b, f, operands, hf, hbuilds, rfl⟩
    cases hbuilds <;> simp [decode, hf]

/-! ### The two directions -/

/-- Every instruction is built by the row of its own opcode byte (R126, R128, R129). -/
theorem exists_row_builds (i : Instr) : ∃ f operands, opForm .wdc65c02 i.opcode = some f ∧ Builds f operands i := by
  cases i with
  | tax | tay | txa | tya | tsx | txs | pha | phx | phy | php | pla | plx | ply | plp | incA | decA | inx | dex
  | iny | dey | aslA | lsrA | rolA | rorA | rts | rti | brk | clc | sec | cli | sei | cld | sed | clv | nop | wai
  | stp | nop03 | nop0B | nop13 | nop1B | nop23 | nop2B | nop33 | nop3B | nop43 | nop4B | nop53 | nop5B | nop63
  | nop6B | nop73 | nop7B | nop83 | nop8B | nop93 | nop9B | nopA3 | nopAB | nopB3 | nopBB | nopC3 | nopD3 | nopE3
  | nopEB | nopF3 | nopFB =>
    exact ⟨_, _, rfl, .f1 _⟩
  | ldaAbs | ldaAbsY | ldaAbsX | ldxAbs | ldxAbsY | ldyAbs | ldyAbsX | staAbs | staAbsY | staAbsX | stxAbs
  | styAbs | stzAbs | stzAbsX | adcAbs | adcAbsY | adcAbsX | sbcAbs | sbcAbsY | sbcAbsX | cmpAbs | cmpAbsY
  | cmpAbsX | cpxAbs | cpyAbs | incAbs | incAbsX | decAbs | decAbsX | aslAbs | aslAbsX | lsrAbs | lsrAbsX | rolAbs
  | rolAbsX | rorAbs | rorAbsX | andAbs | andAbsY | andAbsX | oraAbs | oraAbsY | oraAbsX | eorAbs | eorAbsY
  | eorAbsX | bitAbs | bitAbsX | tsbAbs | trbAbs | jmpAbs | jmpInd | jmpAbsIndX | jsr | nop5C | nopDC | nopFC =>
    exact ⟨_, _, rfl, .f3 _ _⟩
  | bbr0 | bbr1 | bbr2 | bbr3 | bbr4 | bbr5 | bbr6 | bbr7 | bbs0 | bbs1 | bbs2 | bbs3 | bbs4 | bbs5 | bbs6 | bbs7 =>
    exact ⟨_, _, rfl, .f3zr _ _ _⟩
  -- every other instruction has one operand byte
  | _ => exact ⟨_, _, rfl, .f2 _ _⟩

/-- NMOS has a row for an instruction's opcode byte exactly when it has the instruction (R123, R130). -/
theorem opForm_nmos_opcode_isSome (i : Instr) : (opForm .nmos i.opcode).isSome = i.onNmos := by
  cases i <;> rfl

/-- A variant that has an instruction has the row of its opcode byte, the same as on WDC65C02 (R123, R124). -/
theorem opForm_of_wellFormed {v : Variant} {i : Instr} (h : i.wellFormed v = true) :
    opForm v i.opcode = opForm .wdc65c02 i.opcode := by
  cases v with
  | nmos => exact opForm_nmos_of_some _ ((opForm_nmos_opcode_isSome i).trans h)
  | wdc65c02 => rfl

/-- A variant that has a row for an instruction's opcode byte has the instruction (R123). -/
theorem wellFormed_of_row {v : Variant} {i : Instr} {f : OpForm} (h : opForm v i.opcode = some f) :
    i.wellFormed v = true := by
  cases v with
  | nmos => exact (opForm_nmos_opcode_isSome i).symm.trans (Option.isSome_of_eq_some h)
  | wdc65c02 => rfl

/-- An instruction is encoded as the opcode byte of a row that builds it and the operand bytes it is built from
(R120). -/
theorem encode_of_builds {v : Variant} {b : Byte} {f : OpForm} {operands : List Byte} {i : Instr}
    (hf : opForm v b = some f) (h : Builds f operands i) : encode i = b :: operands := by
  have hrow := rowEncodes_of_opForm v b f hf
  cases h <;> exact hrow ..

/-- Settles O2: the row of the instruction's opcode byte builds it from the operand bytes its encoding holds. -/
theorem decodeInvertsEncode : Obligations.DecodeInvertsEncode := by
  unfold Obligations.DecodeInvertsEncode
  intro v i rest hwf
  obtain ⟨f, operands, hf, hbuilds⟩ := exists_row_builds i
  have hrow : opForm v i.opcode = some f := (opForm_of_wellFormed hwf).trans hf
  rw [encode_of_builds hf hbuilds]
  exact decode_eq_ok_iff.mpr ⟨_, f, operands, hrow, hbuilds, rfl⟩

/-- Settles O3: the bytes read are the opcode byte of a row and the operand bytes from which it builds the instruction,
and so is the encoding. -/
theorem encodeInvertsDecode : Obligations.EncodeInvertsDecode := by
  unfold Obligations.EncodeInvertsDecode
  intro v bytes rest i h
  obtain ⟨b, f, operands, hf, hbuilds, rfl⟩ := decode_eq_ok_iff.mp h
  have henc : encode i = b :: operands := encode_of_builds hf hbuilds
  have hlen : i.length = operands.length + 1 := congrArg List.length henc
  have hle : operands.length ≤ 2 := hbuilds.length_le
  refine ⟨by rw [henc], wellFormed_of_row (f := f) ?_, by omega, by omega⟩
  rwa [opcode_of_encode henc]

/-- Settles O1: each word, decoded by evaluation. -/
theorem specWordsDecode : Obligations.SpecWordsDecode := by
  unfold Obligations.SpecWordsDecode
  exact ⟨rfl, rfl, rfl, rfl, rfl, rfl, rfl, rfl, rfl, rfl, rfl, rfl, rfl, rfl, rfl⟩

end Sys2Proof.Proofs
end

section
/-! PROOFS. The counts of the opcode table (R130, R131, R133). -/

namespace Sys2Proof.Proofs

open Sys2Proof.Machine Sys2Proof.Laws

/-- The table has a row for each of the 256 bytes (R132). -/
theorem opTable_length : opTable.length = 256 := by
  simp only [opTable, List.length_append, opRow0_length, opRow1_length, opRow2_length, opRow3_length, opRow4_length,
    opRow5_length, opRow6_length, opRow7_length, opRow8_length, opRow9_length, opRowA_length, opRowB_length,
    opRowC_length, opRowD_length, opRowE_length, show opRowF.length = 16 from rfl]

/-- WDC65C02 has a row for every byte (R123). -/
theorem opForm_wdc_isSome (b : Byte) : (opForm .wdc65c02 b).isSome = true :=
  Option.isSome_of_eq_some (List.getElem?_eq_getElem (opTable_length ▸ b.isLt))

/-- NMOS has no row for the bytes R130 lists, and for no others. -/
theorem opForm_nmos_isNone (b : Byte) : (opForm .nmos b).isNone = rule130Bytes.contains b := by
  cases h : rule130Bytes.contains b with
  | true => exact congrArg Option.isNone (if_pos h)
  | false =>
    have hrow : opForm .nmos b = opForm .wdc65c02 b := if_neg (ne_true_of_eq_false h)
    rw [hrow, ← Option.not_isSome, opForm_wdc_isSome]
    rfl

/-- R130 lists the bytes in ascending order. -/
theorem rule130Bytes_ascending : (rule130Bytes.map BitVec.toNat).Pairwise (· < ·) :=
  List.isChain_iff_pairwise.mp (by simp [rule130Bytes])

/-- The members of an ascending list of bytes among all bytes in order are that list. -/
theorem filter_contains_of_ascending {l : List Byte} (h : (l.map BitVec.toNat).Pairwise (· < ·)) :
    (List.range 256).filter (fun n => l.contains (BitVec.ofNat 8 n)) = l.map BitVec.toNat := by
  refine (List.pairwise_lt_range.filter _).eq_of_mem_iff h fun n => ?_
  simp only [List.mem_filter, List.mem_range, List.contains_iff_mem, List.mem_map]
  constructor
  · rintro ⟨hn, hmem⟩
    exact ⟨_, hmem, Nat.mod_eq_of_lt hn⟩
  · rintro ⟨b, hmem, rfl⟩
    exact ⟨b.isLt, by simpa using hmem⟩

/-- The bytes with no row on NMOS, in order (R130). -/
theorem filter_isNone_nmos :
    (List.range 256).filter (fun n => (opForm .nmos (BitVec.ofNat 8 n)).isNone) = rule130Bytes.map BitVec.toNat := by
  simp only [opForm_nmos_isNone]
  exact filter_contains_of_ascending rule130Bytes_ascending

/-- Of the bytes whose base cycles differ between the variants in the published table, R130 leaves out five (R131). -/
theorem filter_costs_differ :
    (List.range 256).filter (fun n => (baseCycles publishedCycles .nmos (BitVec.ofNat 8 n) !=
      baseCycles publishedCycles .wdc65c02 (BitVec.ofNat 8 n)) && !rule130Bytes.contains (BitVec.ofNat 8 n)) =
        [0x1E, 0x3E, 0x5E, 0x6C, 0x7E] := by
  decide

/-- Settles O4: WDC65C02 has every row, and NMOS those that R130 does not list, of which there are 256 less the length
of that list. -/
theorem opcodeTableCounts : Obligations.OpcodeTableCounts := by
  unfold Obligations.OpcodeTableCounts
  refine ⟨?_, ?_, ?_, ?_⟩
  · have hnone : (List.range 256).countP (fun n => (opForm .nmos (BitVec.ofNat 8 n)).isNone) = 105 := by
      rw [List.countP_eq_length_filter, filter_isNone_nmos]
      rfl
    have hall := List.length_eq_countP_add_countP (fun n => (opForm .nmos (BitVec.ofNat 8 n)).isNone)
      (l := List.range 256)
    simp only [Bool.not_eq_true, Option.isNone_eq_false_iff, Bool.decide_eq_true, hnone, List.length_range] at hall
    omega
  · simp only [opForm_wdc_isSome, List.countP_true, List.length_range]
  · rw [filter_isNone_nmos, List.map_map]
    exact List.map_id'' (fun b => by simp) _
  · simp only [← Option.not_isNone, opForm_nmos_isNone, Bool.and_comm (!_)]
    exact filter_costs_differ

end Sys2Proof.Proofs
end

section
/-! PROOFS. Which operations look at the variant: JMP's pointer, the entry to a handler and the bonus of the AbsoluteX
shifts do (R124, R131); every other instruction does the same on both chips. -/

namespace Sys2Proof.Proofs

open Sys2Proof.Machine Sys2Proof.Laws

/-- An operation that does the same on either variant, and keeps it. -/
def IgnoresVariant (f : State → State) : Prop :=
  ∀ (v : Variant) (s : State), f { s with variant := v } = { f s with variant := v }

/-! ### The operands -/

section
variable {m : Mode} (hm : ∀ w, m ≠ .ind w) (v : Variant) (s : State)
include hm

/-- Only JMP's Indirect mode resolves its address by the variant (R171). -/
theorem resolve_variant :
    resolve m { s with variant := v } = { resolve m s with st := { (resolve m s).st with variant := v } } := by
  cases m with
  | ind w => exact absurd rfl (hm w)
  | _ => rfl

/-- So the operand byte, its accesses and the bonus are those of either variant (R160, R177). -/
theorem operand_variant :
    operandByte m { s with variant := v } = operandByte m s ∧
      operandReads m { s with variant := v } = operandReads m s ∧
      crossBonus m { s with variant := v } = crossBonus m s := by
  cases m with
  | ind w => exact absurd rfl (hm w)
  | _ => exact ⟨rfl, rfl, rfl⟩

/-- So are a read-modify-write's byte, bonus and accesses (R284). -/
theorem modifyByte_variant (f : Byte → Byte) : modifyByte m f { s with variant := v } =
    { modifyByte m f s with st := { (modifyByte m f s).st with variant := v } } := by
  rw [modifyByte, resolve_variant hm]; rfl

end

/-! ### The families -/

section
variable {m : Mode} (hm : ∀ w, m ≠ .ind w)
include hm

theorem lda_ignoresVariant : IgnoresVariant (lda m) := fun v s => by simp only [lda_eq, operand_variant hm]
theorem ldx_ignoresVariant : IgnoresVariant (ldx m) := fun v s => by simp only [ldx_eq, operand_variant hm]
theorem ldy_ignoresVariant : IgnoresVariant (ldy m) := fun v s => by simp only [ldy_eq, operand_variant hm]
theorem andA_ignoresVariant : IgnoresVariant (andA m) := fun v s => by simp only [andA_eq, operand_variant hm]
theorem oraA_ignoresVariant : IgnoresVariant (oraA m) := fun v s => by simp only [oraA_eq, operand_variant hm]
theorem eorA_ignoresVariant : IgnoresVariant (eorA m) := fun v s => by simp only [eorA_eq, operand_variant hm]
theorem bitTest_ignoresVariant : IgnoresVariant (bitTest m) := fun v s => by
  simp only [bitTest_eq, operand_variant hm]
theorem cmp_ignoresVariant : IgnoresVariant (Sys2Proof.Machine.cmp m) := fun v s => by
  simp only [cmp_eq, operand_variant hm]
theorem cpx_ignoresVariant : IgnoresVariant (cpx m) := fun v s => by simp only [cpx_eq, operand_variant hm]
theorem cpy_ignoresVariant : IgnoresVariant (cpy m) := fun v s => by simp only [cpy_eq, operand_variant hm]
theorem adc_ignoresVariant : IgnoresVariant (adc m) := fun v s => by
  simp only [adc_eq, setSum, State.flag, operand_variant hm]
theorem sbc_ignoresVariant : IgnoresVariant (sbc m) := fun v s => by
  simp only [sbc_eq, setSum, State.flag, operand_variant hm]

theorem incMem_ignoresVariant : IgnoresVariant (incMem m) := fun v s => by
  rw [incMem, modifyByte_variant hm]; rfl
theorem decMem_ignoresVariant : IgnoresVariant (decMem m) := fun v s => by
  rw [decMem, modifyByte_variant hm]; rfl
theorem tsb_ignoresVariant : IgnoresVariant (tsb m) := fun v s => by rw [tsb, modifyByte_variant hm]; rfl
theorem trb_ignoresVariant : IgnoresVariant (trb m) := fun v s => by rw [trb, modifyByte_variant hm]; rfl
theorem jmp_ignoresVariant : IgnoresVariant (jmp m) := fun v s => by rw [jmp, resolve_variant hm]; rfl
theorem storeByte_ignoresVariant (b : Byte) : IgnoresVariant (storeByte m b) := fun v s => by
  rw [storeByte, resolve_variant hm]; rfl
theorem sta_ignoresVariant : IgnoresVariant (sta m) := fun v s => storeByte_ignoresVariant hm s.a v s
theorem stx_ignoresVariant : IgnoresVariant (stx m) := fun v s => storeByte_ignoresVariant hm s.x v s
theorem sty_ignoresVariant : IgnoresVariant (sty m) := fun v s => storeByte_ignoresVariant hm s.y v s
theorem stz_ignoresVariant : IgnoresVariant (stz m) := storeByte_ignoresVariant hm 0x00#8
theorem discardOperand_ignoresVariant : IgnoresVariant (discardOperand m) := fun v s => by
  rw [discardOperand, resolve_variant hm]; rfl

/-- A shift through a mode that reports no page cross charges no bonus on WDC65C02 either (R284). -/
theorem shiftMem_ignoresVariant {op : ShiftOp} (hx : ∀ s, (resolve m s).crossed = false) :
    IgnoresVariant (shiftMem op m) := by
  have hshift (s : State) : shiftMem op m s =
      let r := modifyByte m (fun b => (shiftByte op (s.flag .c) b).res) s
      { r.st with p := shiftStatus (shiftByte op (s.flag .c) r.old) r.st.p } := by
    simp [shiftMem, modifyByte, hx, State.chargeCross]
  intro v s
  rw [hshift, hshift, modifyByte_variant hm]; rfl

end

theorem branchIf_ignoresVariant (f : Flag) (sense : Bool) (off : Byte) : IgnoresVariant (branchIf f sense off) := by
  intro v s
  rw [branchIf_eq, branchIf_eq]
  by_cases h : s.flag f = sense
  · rw [if_pos h]; exact if_pos h
  · rw [if_neg h]; exact if_neg h

theorem branchOnBit_ignoresVariant (n : Nat) (sense : Bool) (zp off : Byte) :
    IgnoresVariant (branchOnBit n sense zp off) := by
  intro v s
  rw [branchOnBit_eq, branchOnBit_eq]
  by_cases h : (s.peek (zext16 zp)).getLsbD n = sense
  · rw [if_pos h]; exact if_pos h
  · rw [if_neg h]; exact if_neg h

theorem branchAlways_ignoresVariant (off : Byte) : IgnoresVariant (branchAlways off) := by
  intro v s
  rw [branchAlways_eq, branchAlways_eq]

/-- Every instruction but the six is an operation that ignores the variant. -/
theorem exec_ignoresVariant {i : Instr} (hi : variantSwitched i = false) :
    ∃ f, (∀ s, exec i s = .next (f s)) ∧ IgnoresVariant f := by
  cases i with
  -- the six (R171, R324, R284)
  | jmpInd | brk | aslAbsX | lsrAbsX | rolAbsX | rorAbsX => cases hi
  -- one operand read (R201 to R203, R250 to R254, R300 to R303)
  | ldaIndX | ldaZp | ldaImm | ldaAbs | ldaIndY | ldaZpInd | ldaZpX | ldaAbsY | ldaAbsX =>
    exact ⟨_, fun _ => rfl, lda_ignoresVariant nofun⟩
  | ldxImm | ldxZp | ldxAbs | ldxZpY | ldxAbsY => exact ⟨_, fun _ => rfl, ldx_ignoresVariant nofun⟩
  | ldyImm | ldyZp | ldyAbs | ldyZpX | ldyAbsX => exact ⟨_, fun _ => rfl, ldy_ignoresVariant nofun⟩
  | adcIndX | adcZp | adcImm | adcAbs | adcIndY | adcZpInd | adcZpX | adcAbsY | adcAbsX =>
    exact ⟨_, fun _ => rfl, adc_ignoresVariant nofun⟩
  | sbcIndX | sbcZp | sbcImm | sbcAbs | sbcIndY | sbcZpInd | sbcZpX | sbcAbsY | sbcAbsX =>
    exact ⟨_, fun _ => rfl, sbc_ignoresVariant nofun⟩
  | cmpIndX | cmpZp | cmpImm | cmpAbs | cmpIndY | cmpZpInd | cmpZpX | cmpAbsY | cmpAbsX =>
    exact ⟨_, fun _ => rfl, cmp_ignoresVariant nofun⟩
  | cpxImm | cpxZp | cpxAbs => exact ⟨_, fun _ => rfl, cpx_ignoresVariant nofun⟩
  | cpyImm | cpyZp | cpyAbs => exact ⟨_, fun _ => rfl, cpy_ignoresVariant nofun⟩
  | andIndX | andZp | andImm | andAbs | andIndY | andZpInd | andZpX | andAbsY | andAbsX =>
    exact ⟨_, fun _ => rfl, andA_ignoresVariant nofun⟩
  | oraIndX | oraZp | oraImm | oraAbs | oraIndY | oraZpInd | oraZpX | oraAbsY | oraAbsX =>
    exact ⟨_, fun _ => rfl, oraA_ignoresVariant nofun⟩
  | eorIndX | eorZp | eorImm | eorAbs | eorIndY | eorZpInd | eorZpX | eorAbsY | eorAbsX =>
    exact ⟨_, fun _ => rfl, eorA_ignoresVariant nofun⟩
  | bitZp | bitAbs | bitZpX | bitAbsX | bitImm => exact ⟨_, fun _ => rfl, bitTest_ignoresVariant nofun⟩
  -- a read and a store of one address (R270, R271, R280 to R284, R304, R305)
  | incZp | incAbs | incZpX | incAbsX => exact ⟨_, fun _ => rfl, incMem_ignoresVariant nofun⟩
  | decZp | decAbs | decZpX | decAbsX => exact ⟨_, fun _ => rfl, decMem_ignoresVariant nofun⟩
  | aslZp | aslAbs | aslZpX | lsrZp | lsrAbs | lsrZpX | rolZp | rolAbs | rolZpX | rorZp | rorAbs | rorZpX =>
    exact ⟨_, fun _ => rfl, shiftMem_ignoresVariant (by nofun) fun _ => rfl⟩
  | tsbZp | tsbAbs => exact ⟨_, fun _ => rfl, tsb_ignoresVariant nofun⟩
  | trbZp | trbAbs => exact ⟨_, fun _ => rfl, trb_ignoresVariant nofun⟩
  -- one store (R204 to R207)
  | staIndX | staZp | staAbs | staIndY | staZpInd | staZpX | staAbsY | staAbsX =>
    exact ⟨_, fun _ => rfl, sta_ignoresVariant nofun⟩
  | stxZp | stxAbs | stxZpY => exact ⟨_, fun _ => rfl, stx_ignoresVariant nofun⟩
  | styZp | styAbs | styZpX => exact ⟨_, fun _ => rfl, sty_ignoresVariant nofun⟩
  | stzZp | stzZpX | stzAbs | stzAbsX => exact ⟨_, fun _ => rfl, stz_ignoresVariant nofun⟩
  -- jumps through other modes, branches (R320, R330 to R339, R372, R373)
  | jmpAbs | jmpAbsIndX => exact ⟨_, fun _ => rfl, jmp_ignoresVariant nofun⟩
  | bcc | bcs | beq | bne | bmi | bpl | bvc | bvs => exact ⟨_, fun _ => rfl, branchIf_ignoresVariant _ _ _⟩
  | bra => exact ⟨_, fun _ => rfl, branchAlways_ignoresVariant _⟩
  | bbr0 | bbr1 | bbr2 | bbr3 | bbr4 | bbr5 | bbr6 | bbr7 | bbs0 | bbs1 | bbs2 | bbs3 | bbs4 | bbs5 | bbs6 | bbs7 =>
    exact ⟨_, fun _ => rfl, branchOnBit_ignoresVariant _ _ _ _⟩
  -- reserved opcodes with operands (R394)
  | nop02 | nop22 | nop42 | nop44 | nop54 | nop5C | nop62 | nop82 | nopC2 | nopD4 | nopDC | nopE2 | nopF4 | nopFC =>
    exact ⟨_, fun _ => rfl, discardOperand_ignoresVariant nofun⟩
  -- every other operation computes each field without the variant: registers, flags, stack, RMBn, SMBn, nothing
  | _ => exact ⟨_, fun _ => rfl, fun _ _ => rfl⟩

/-- Settles O28: the next state is the operation's, which ignores the variant. -/
theorem variantsAgree : Obligations.VariantsAgree := by
  unfold Obligations.VariantsAgree
  intro i s hi
  obtain ⟨f, hf, hignores⟩ := exec_ignoresVariant hi
  exact ⟨f s, by rw [hf, hignores], by rw [hf, hignores]⟩

end Sys2Proof.Proofs
end

section
/-! PROOFS. The arithmetic of the addressing modes (R163 to R175, R177): an index or a branch offset added to a word,
the effective address of each mode, and the page-cross signal as the carry out of the low byte. -/

namespace Sys2Proof.Proofs

open Sys2Proof.Machine Sys2Proof.Laws

/-! ### Words as numbers -/

/-- The low byte is the remainder by 256. -/
theorem toNat_lo (w : Word) : (lo w).toNat = w.toNat % 256 := by
  simp [lo]

/-- The high byte is the quotient by 256. -/
theorem toNat_hi (w : Word) : (hi w).toNat = w.toNat / 256 := by
  have hquot : w.toNat / 256 < 256 := by omega
  simp [hi, Nat.shiftRight_eq_div_pow, Nat.mod_eq_of_lt hquot]

/-- An unsigned byte index is added modulo 65536 (R169, R170, R173). -/
theorem toNat_add_zext16 (w : Word) (b : Byte) : (w + zext16 b).toNat = (w.toNat + b.toNat) % 65536 := by
  rw [BitVec.toNat_add, zext16, BitVec.toNat_setWidth_of_le (by decide)]

/-- A signed byte offset is added modulo 65536 (R164). -/
theorem toNat_add_sext16 (w : Word) (b : Byte) :
    ((w + sext16 b).toNat : Int) = (w.toNat + b.toInt) % 65536 := by
  have hoff : ((sext16 b).toNat : Int) = b.toInt % 65536 :=
    Int.toNat_of_nonneg (Int.emod_nonneg _ (by decide))
  calc ((w + sext16 b).toNat : Int)
      = ((w.toNat : Int) + (sext16 b).toNat) % 65536 := by rw [BitVec.toNat_add]; rfl
    _ = (w.toNat + b.toInt) % 65536 := by rw [hoff, Int.add_emod_emod]

/-! ### The page-cross signal -/

/-- The signal compares the high bytes (R177). -/
theorem pageCrossed_iff (base final : Word) : pageCrossed base final = true ↔ hi base ≠ hi final := by
  simp [pageCrossed]

/-- Adding a byte keeps the high byte exactly when the low byte does not carry: a carry makes it the next one modulo
256, which is never the same. -/
theorem hi_add_zext16_eq_iff (base : Word) (index : Byte) :
    hi base = hi (base + zext16 index) ↔ (lo base).toNat + index.toNat ≤ 0xFF := by
  rw [← BitVec.toNat_inj, toNat_hi, toNat_hi, toNat_add_zext16, toNat_lo]
  omega

/-- Settles O31: the signal is that the high bytes differ, which an index makes them do only by a carry. -/
theorem pageCrossIsLowByteCarry : Obligations.PageCrossIsLowByteCarry := by
  unfold Obligations.PageCrossIsLowByteCarry
  refine ⟨fun base index => ?_, pageCrossed_iff⟩
  rw [Bool.eq_iff_iff, pageCrossed_iff, decide_eq_true_iff, ne_eq, hi_add_zext16_eq_iff, Nat.not_le]

/-! ### The effective addresses -/

/-- Settles O30: a direct mode names its address, an index or offset is added modulo 65536, and an indirect mode takes
the word the Bus answers at its pointer; a zero-page address is a byte as a word. -/
theorem effectiveAddresses : Obligations.EffectiveAddresses := by
  unfold Obligations.EffectiveAddresses
  intro o w s
  simp only [← zext16_eq_mkWord]
  have hindY := toNat_add_zext16 (s.peekWord (zext16 o) (zext16 (o + 1#8))) s.y
  exact ⟨
    -- Immediate, ZeroPage, ZeroPageX, ZeroPageY, Absolute
    rfl, rfl, rfl, rfl, rfl,
    -- AbsoluteX, AbsoluteY
    toNat_add_zext16 w s.x, toNat_add_zext16 w s.y,
    -- IndirectX, IndirectY, ZeroPageIndirect, Indirect, AbsoluteIndexedIndirect
    rfl, hindY, rfl, rfl, rfl,
    -- Relative
    toNat_add_sext16 s.pc o⟩

end Sys2Proof.Proofs
end

section
/-! PROOFS. The loads and the stores (R201 to R207): every form a rule lists has its encoding and runs the rule's
operation in its mode, and that operation's equation of states gives the exact next state. -/

namespace Sys2Proof.Proofs

open Sys2Proof.Machine Sys2Proof.Laws

/-! ### The forms of a rule over its operation -/

/-- A form is encoded as its row says, and in every state its meaning is the operation of its rule in its mode. -/
structure RunsAs (op : Mode → State → State) (f : Form) : Prop where
  encoded : f.encoded
  exec_eq : ∀ s, exec f.instr s = .next (op f.mode s)

/-- What a form does in a state, from what the operation of its rule does there. -/
theorem RunsAs.encoded_and_exec {op : Mode → State → State} {f : Form} {s t : State} (h : RunsAs op f)
    (hop : op f.mode s = t) : f.encoded ∧ exec f.instr s = .next t :=
  ⟨h.encoded, hop ▸ h.exec_eq s⟩

section

variable {o : Byte} {w : Word} {f : Form}

/-- Every form of LDA, encoded as listed, loads A (R201). -/
theorem runsAs_of_mem_ldaForms (hf : f ∈ ldaForms o w) : RunsAs lda f := by
  simp only [ldaForms, List.mem_cons, List.not_mem_nil, or_false] at hf
  rcases hf with rfl | rfl | rfl | rfl | rfl | rfl | rfl | rfl | rfl <;> exact ⟨⟨rfl, rfl⟩, fun _ => rfl⟩

/-- Every form of LDX, encoded as listed, loads X (R202). -/
theorem runsAs_of_mem_ldxForms (hf : f ∈ ldxForms o w) : RunsAs ldx f := by
  simp only [ldxForms, List.mem_cons, List.not_mem_nil, or_false] at hf
  rcases hf with rfl | rfl | rfl | rfl | rfl <;> exact ⟨⟨rfl, rfl⟩, fun _ => rfl⟩

/-- Every form of LDY, encoded as listed, loads Y (R203). -/
theorem runsAs_of_mem_ldyForms (hf : f ∈ ldyForms o w) : RunsAs ldy f := by
  simp only [ldyForms, List.mem_cons, List.not_mem_nil, or_false] at hf
  rcases hf with rfl | rfl | rfl | rfl | rfl <;> exact ⟨⟨rfl, rfl⟩, fun _ => rfl⟩

/-- Every form of STA, encoded as listed, stores A (R204). -/
theorem runsAs_of_mem_staForms (hf : f ∈ staForms o w) : RunsAs sta f := by
  refine ⟨?_, exec_of_mem_staForms hf⟩
  simp only [staForms, List.mem_cons, List.not_mem_nil, or_false] at hf
  rcases hf with rfl | rfl | rfl | rfl | rfl | rfl | rfl | rfl <;> exact ⟨rfl, rfl⟩

/-- Every form of STX, encoded as listed, stores X (R205). -/
theorem runsAs_of_mem_stxForms (hf : f ∈ stxForms o w) : RunsAs stx f := by
  simp only [stxForms, List.mem_cons, List.not_mem_nil, or_false] at hf
  rcases hf with rfl | rfl | rfl <;> exact ⟨⟨rfl, rfl⟩, fun _ => rfl⟩

/-- Every form of STY, encoded as listed, stores Y (R206). -/
theorem runsAs_of_mem_styForms (hf : f ∈ styForms o w) : RunsAs sty f := by
  simp only [styForms, List.mem_cons, List.not_mem_nil, or_false] at hf
  rcases hf with rfl | rfl | rfl <;> exact ⟨⟨rfl, rfl⟩, fun _ => rfl⟩

/-- Every form of STZ, encoded as listed, stores 0 (R207). -/
theorem runsAs_of_mem_stzForms (hf : f ∈ stzForms o w) : RunsAs stz f := by
  simp only [stzForms, List.mem_cons, List.not_mem_nil, or_false] at hf
  rcases hf with rfl | rfl | rfl | rfl <;> exact ⟨⟨rfl, rfl⟩, fun _ => rfl⟩

end

/-! ### The exact next states -/

/-- Settles O32: a listed form is LDA, LDX or LDY in its mode, and `lda_eq`, `ldx_eq` and `ldy_eq` say what that
does. -/
theorem loadResults : Obligations.LoadResults := by
  unfold Obligations.LoadResults
  intro o w s
  exact ⟨
    fun f hf => (runsAs_of_mem_ldaForms hf).encoded_and_exec (lda_eq f.mode s),
    fun f hf => (runsAs_of_mem_ldxForms hf).encoded_and_exec (ldx_eq f.mode s),
    fun f hf => (runsAs_of_mem_ldyForms hf).encoded_and_exec (ldy_eq f.mode s)⟩

/-- Settles O33: a listed form is STA, STX, STY or STZ in its mode, each of which is a store of its own byte, and
`storeByte_eq` says what that does. -/
theorem storeResults : Obligations.StoreResults := by
  unfold Obligations.StoreResults
  intro o w s
  exact ⟨
    fun f hf => (runsAs_of_mem_staForms hf).encoded_and_exec (storeByte_eq f.mode s.a s),
    fun f hf => (runsAs_of_mem_stxForms hf).encoded_and_exec (storeByte_eq f.mode s.x s),
    fun f hf => (runsAs_of_mem_styForms hf).encoded_and_exec (storeByte_eq f.mode s.y s),
    fun f hf => (runsAs_of_mem_stzForms hf).encoded_and_exec (storeByte_eq f.mode 0x00#8 s)⟩

end Sys2Proof.Proofs
end

section
/-! PROOFS. The transfers and the stack (R220 to R238): the exact next state of every transfer, push and pull, and a pull
that finds what a push left in RAM. -/

namespace Sys2Proof.Proofs

open Sys2Proof.Machine Sys2Proof.Laws

/-! ### The transfers -/

/-- Settles O35: each of the five sets its register from the source with Z and N, and TXS sets SP alone. -/
theorem transferResults : Obligations.TransferResults := by
  unfold Obligations.TransferResults
  intro s
  exact ⟨
    ⟨⟨rfl, rfl⟩, exec_tax s⟩, ⟨⟨rfl, rfl⟩, exec_tay s⟩,
    ⟨⟨rfl, rfl⟩, exec_txa s⟩, ⟨⟨rfl, rfl⟩, exec_tya s⟩,
    ⟨⟨rfl, rfl⟩, exec_tsx s⟩, ⟨⟨rfl, rfl⟩, exec_txs s⟩⟩

/-! ### The pushes -/

/-- What a push does (R11, R34): one write at the stack address of before, and SP one less. -/
theorem push_eq (v : Byte) (s : State) :
    s.push v = { s with
      sp := s.sp - 1#8
      mem := busWrite s.map s.mem (stackAddr s.sp) v
      bus := s.bus ++ [.write (stackAddr s.sp) v] } := rfl

/-- Settles O36: each of the four pushes its byte, and `push_eq` says what a push does. -/
theorem pushResults : Obligations.PushResults := by
  unfold Obligations.PushResults
  intro s q hq
  have hpush : encodedAs q.1 q.2.1 q.2.2.1 ∧ exec q.1 s = .next (s.push q.2.2.2) := by
    simp only [List.mem_cons, List.not_mem_nil, or_false] at hq
    rcases hq with rfl | rfl | rfl | rfl
    · exact ⟨⟨rfl, rfl⟩, exec_pha s⟩
    · exact ⟨⟨rfl, rfl⟩, exec_phx s⟩
    · exact ⟨⟨rfl, rfl⟩, exec_phy s⟩
    · exact ⟨⟨rfl, rfl⟩, exec_php s⟩
  obtain ⟨hencoded, hexec⟩ := hpush
  exact ⟨hencoded, hexec.trans (congrArg _ (push_eq q.2.2.2 s))⟩

/-! ### The pulls -/

/-- What a pull does (R11, R34): SP one more, one read at the stack address of after, whose answer is the byte
pulled. -/
theorem pull_eq (s : State) :
    s.pull = (s.peek (stackAddr (s.sp + 1#8)), { s with
      sp := s.sp + 1#8
      bus := s.bus ++ [.read (stackAddr (s.sp + 1#8)) (s.peek (stackAddr (s.sp + 1#8)))] }) := rfl

/-- Settles O37: each of the four puts the byte pulled where its rule says, and `pull_eq` says what a pull does. -/
theorem pullResults : Obligations.PullResults := by
  unfold Obligations.PullResults
  rintro s v rfl
  have hpla := exec_pla s
  have hplx := exec_plx s
  have hply := exec_ply s
  have hplp := exec_plp s
  rw [pull_eq] at hpla hplx hply hplp
  exact ⟨⟨⟨rfl, rfl⟩, hpla⟩, ⟨⟨rfl, rfl⟩, hplx⟩, ⟨⟨rfl, rfl⟩, hply⟩, ⟨⟨rfl, rfl⟩, hplp⟩⟩

/-! ### A push and the matching pull -/

/-- The stack address of a push reads as the byte pushed if it is RAM (R80). -/
theorem peek_push_same {s : State} (v : Byte) (hwf : Memory.wf s.mem = true) (hram : s.kindAt (stackAddr s.sp) = .ram) :
    (s.push v).peek (stackAddr s.sp) = v :=
  peek_memWrite_same s (stackAddr s.sp) v hwf hram

/-- A pull finds the byte and the stack pointer of a push into RAM (R238) in every state that has the push's map,
memory and stack pointer: no other register, no flag and no earlier access counts. -/
theorem pull_of_push {s t : State} (v : Byte) (hwf : Memory.wf s.mem = true)
    (hram : s.kindAt (stackAddr s.sp) = .ram) (hmap : t.map = s.map) (hmem : t.mem = (s.push v).mem)
    (hsp : t.sp = (s.push v).sp) : t.pull.1 = v ∧ t.pull.2.sp = s.sp := by
  have hback : t.sp + 1#8 = s.sp := by rw [hsp, push_sp, BitVec.sub_add_cancel]
  have hnotDevice : (s.push v).kindAt (stackAddr s.sp) ≠ .device := by
    rw [kindAt_congr (push_map s v), hram]; nofun
  refine ⟨?_, hback⟩
  calc t.pull.1
      = t.peek (stackAddr s.sp) := by rw [pull_eq, hback]
    _ = (s.push v).peek (stackAddr s.sp) := peek_congr_memory hnotDevice hmap (by rw [hmem])
    _ = v := peek_push_same v hwf hram

/-- A flag of P after PHP and PLP (R233, R237): the live one, but B clear and U set. -/
theorem getFlag_pulledStatus_stackedByBrk (f : Flag) (p : Byte) :
    getFlag f (pulledStatus (stackedByBrk p)) = if f = .b then false else if f = .u then true else getFlag f p := by
  cases f <;> simp

/-- Settles O38: `pull_of_push` for the state between, whose A, X, Y or P may be any; P comes back through the byte PHP
pushes. -/
theorem pushThenPullRestores : Obligations.PushThenPullRestores := by
  unfold Obligations.PushThenPullRestores
  intro s v q hwf hram
  refine ⟨⟨_, _, exec_pha s, exec_pla _, ?_⟩, ⟨_, _, exec_phx s, exec_plx _, ?_⟩,
    ⟨_, _, exec_phy s, exec_ply _, ?_⟩, ⟨_, _, exec_php s, exec_plp _, ?_⟩⟩
  · obtain ⟨hbyte, hsp⟩ := pull_of_push (t := { s.push s.a with a := v, p := q }) s.a hwf hram rfl rfl rfl
    exact ⟨hbyte, hsp, congrArg (putZN · q) hbyte⟩
  · obtain ⟨hbyte, hsp⟩ := pull_of_push (t := { s.push s.x with x := v, p := q }) s.x hwf hram rfl rfl rfl
    exact ⟨hbyte, hsp, congrArg (putZN · q) hbyte⟩
  · obtain ⟨hbyte, hsp⟩ := pull_of_push (t := { s.push s.y with y := v, p := q }) s.y hwf hram rfl rfl rfl
    exact ⟨hbyte, hsp, congrArg (putZN · q) hbyte⟩
  · obtain ⟨hbyte, hsp⟩ :=
      pull_of_push (t := { s.push (stackedByBrk s.p) with p := q }) (stackedByBrk s.p) hwf hram rfl rfl rfl
    rw [hbyte]
    refine ⟨hsp, getFlag_pulledStatus_stackedByBrk .b s.p, getFlag_pulledStatus_stackedByBrk .u s.p, fun f hb hu => ?_⟩
    rw [State.flag, getFlag_pulledStatus_stackedByBrk, if_neg hb, if_neg hu]; rfl

end Sys2Proof.Proofs
end

section
/-! PROOFS. The adder as integer arithmetic (R250, R251, R255): its result and carry are the whole sum, its overflow is
the signed range, and on the complement of the operand it subtracts. -/

namespace Sys2Proof.Proofs

open Sys2Proof.Machine Sys2Proof.Laws

/-! ### Bytes and words as numbers -/

/-- Masking with 0x80 asks for bit 7. -/
theorem and_0x80_bne_zero (x : Byte) : ((x &&& 0x80#8) != 0x00#8) = x.getLsbD 7 := by
  have hmask : x &&& 0x80#8 = if x.getLsbD 7 = true then 0x80#8 else 0x00#8 := BitVec.and_twoPow x 7
  rw [hmask]
  cases x.getLsbD 7 <;> rfl

/-- The complement of a byte, as SBC takes it (R251), is 255 less the byte. -/
theorem toNat_xor_0xFF (m : Byte) : (m ^^^ 0xFF#8).toNat = 255 - m.toNat :=
  (congrArg BitVec.toNat BitVec.xor_allOnes).trans BitVec.toNat_not

/-- A byte as a signed number. -/
theorem toInt_byte (x : Byte) : x.toInt = if x.toNat < 128 then (x.toNat : Int) else x.toNat - 256 := by
  rw [BitVec.toInt_eq_toNat_cond]
  split <;> split <;> omega

/-- As a signed number the complement is -1 less the byte. -/
theorem toInt_xor_0xFF (m : Byte) : (m ^^^ 0xFF#8).toInt = -1 - m.toInt := by
  have hm := m.isLt
  rw [toInt_byte, toInt_byte, toNat_xor_0xFF]
  split <;> split <;> omega

/-- A word made of two bytes is 256 times the high one plus the low one. -/
theorem toNat_mkWord (h l : Byte) : (mkWord h l).toNat = 256 * h.toNat + l.toNat := by
  have hlow : (mkWord h l).toNat % 256 = l.toNat := by rw [← toNat_lo, lo_mkWord]
  have hhigh : (mkWord h l).toNat / 256 = h.toNat := by rw [← toNat_hi, hi_mkWord]
  omega

/-! ### Addition -/

section
variable (a m : Byte) (c : Bool)

/-- The result is the sum modulo 256 (R250). -/
theorem toNat_addBytes_res : (addBytes a m c).res.toNat = (a.toNat + m.toNat + c.toNat) % 256 :=
  BitVec.toNat_ofNat _ 8

/-- The carry is that the sum needs a ninth bit (R250). -/
theorem addBytes_carry_iff : (addBytes a m c).carry = true ↔ 256 ≤ a.toNat + m.toNat + c.toNat :=
  decide_eq_true_iff

/-- Result and carry together are the whole sum. -/
theorem toNat_addBytes :
    256 * (addBytes a m c).carry.toNat + (addBytes a m c).res.toNat = a.toNat + m.toNat + c.toNat := by
  have ha := a.isLt
  have hm := m.isLt
  have hc := c.toNat_le
  rw [toNat_addBytes_res]
  cases hcarry : (addBytes a m c).carry
  · rw [Bool.eq_false_iff, ne_eq, addBytes_carry_iff] at hcarry
    simp only [Bool.toNat_false]; omega
  · rw [addBytes_carry_iff] at hcarry
    simp only [Bool.toNat_true]; omega

/-- The overflow is that both operands have the sign the result has not (R250). -/
theorem addBytes_overflow_iff_signs :
    (addBytes a m c).overflow = true ↔
      ¬(a.toNat < 128 ↔ (addBytes a m c).res.toNat < 128) ∧ ¬(m.toNat < 128 ↔ (addBytes a m c).res.toNat < 128) := by
  have hsign (x : Byte) : x.getLsbD 7 = decide (128 ≤ x.toNat) := BitVec.msb_eq_decide x
  have hoverflow : (addBytes a m c).overflow =
      ((a ^^^ (addBytes a m c).res) &&& (m ^^^ (addBytes a m c).res)).getLsbD 7 := rfl
  rw [hoverflow, BitVec.getLsbD_and, BitVec.getLsbD_xor, BitVec.getLsbD_xor, hsign, hsign, hsign]
  simp only [Bool.and_eq_true, bne_iff_ne, ne_eq, decide_eq_decide, ← Nat.not_lt, not_iff_not]

/-- So it is that the signed sum is no signed byte (R255). -/
theorem addBytes_overflow_iff :
    (addBytes a m c).overflow = true ↔
      a.toInt + m.toInt + c.toNat < -128 ∨ 127 < a.toInt + m.toInt + c.toNat := by
  have ha := a.isLt
  have hm := m.isLt
  have hc := c.toNat_le
  rw [addBytes_overflow_iff_signs, toNat_addBytes_res, toInt_byte a, toInt_byte m]
  split <;> split <;> omega

/-! ### Subtraction -/

/-- SBC's adder leaves the difference, less one if the carry is clear, modulo 256 (R251). -/
theorem toNat_subBytes_res :
    ((subBytes a m c).res.toNat : Int) = ((a.toNat : Int) - m.toNat - (1 - c.toNat)) % 256 := by
  have hm := m.isLt
  rw [subBytes, toNat_addBytes_res, toNat_xor_0xFF]
  omega

/-- Its carry is that no borrow was needed (R255). -/
theorem subBytes_carry_iff : (subBytes a m c).carry = true ↔ m.toNat + (1 - c.toNat) ≤ a.toNat := by
  have hm := m.isLt
  have hc := c.toNat_le
  rw [subBytes, addBytes_carry_iff, toNat_xor_0xFF]
  omega

/-- Its overflow is that the signed difference is no signed byte (R255). -/
theorem subBytes_overflow_iff :
    (subBytes a m c).overflow = true ↔
      a.toInt - m.toInt - (1 - c.toNat) < -128 ∨ 127 < a.toInt - m.toInt - (1 - c.toNat) := by
  rw [subBytes, addBytes_overflow_iff, toInt_xor_0xFF]
  omega

end

/-! ### Two bytes at a time -/

/-- The multi-byte law (R255): the carry of the low bytes added to the high bytes gives the sum of the words. -/
theorem addBytes_chain (b c : Word) (carryIn : Bool) {low high : Sum} (hlow : low = addBytes (lo b) (lo c) carryIn)
    (hhigh : high = addBytes (hi b) (hi c) low.carry) :
    (mkWord high.res low.res).toNat = (b.toNat + c.toNat + carryIn.toNat) % 65536 ∧
      (high.carry = true ↔ 65536 ≤ b.toNat + c.toNat + carryIn.toNat) := by
  have hl := toNat_addBytes (lo b) (lo c) carryIn
  have hh := toNat_addBytes (hi b) (hi c) low.carry
  rw [← hlow, toNat_lo, toNat_lo] at hl
  rw [← hhigh, toNat_hi, toNat_hi] at hh
  have hlowLt := low.res.isLt
  have hhighLt := high.res.isLt
  have hcarry := high.carry.toNat_le
  rw [toNat_mkWord, ← Bool.toNat_eq_one]
  constructor <;> omega

end Sys2Proof.Proofs
end

section
/-! PROOFS. ADC, SBC and the comparisons (R250 to R256): the exact next state of every form, what it leaves as integer
arithmetic, and that the decimal flag is not looked at. -/

namespace Sys2Proof.Proofs

open Sys2Proof.Machine Sys2Proof.Laws

/-! ### The forms of a rule over its operation -/

section

variable {o : Byte} {w : Word} {f : Form}

/-- Every form of ADC, encoded as listed, adds to A (R250). -/
theorem runsAs_of_mem_adcForms (hf : f ∈ adcForms o w) : RunsAs adc f := by
  simp only [adcForms, List.mem_cons, List.not_mem_nil, or_false] at hf
  rcases hf with rfl | rfl | rfl | rfl | rfl | rfl | rfl | rfl | rfl <;> exact ⟨⟨rfl, rfl⟩, fun _ => rfl⟩

/-- Every form of SBC, encoded as listed, subtracts from A (R251). -/
theorem runsAs_of_mem_sbcForms (hf : f ∈ sbcForms o w) : RunsAs sbc f := by
  simp only [sbcForms, List.mem_cons, List.not_mem_nil, or_false] at hf
  rcases hf with rfl | rfl | rfl | rfl | rfl | rfl | rfl | rfl | rfl <;> exact ⟨⟨rfl, rfl⟩, fun _ => rfl⟩

/-- Every form of CMP, encoded as listed, compares A (R252). -/
theorem runsAs_of_mem_cmpForms (hf : f ∈ cmpForms o w) : RunsAs Sys2Proof.Machine.cmp f := by
  simp only [cmpForms, List.mem_cons, List.not_mem_nil, or_false] at hf
  rcases hf with rfl | rfl | rfl | rfl | rfl | rfl | rfl | rfl | rfl <;> exact ⟨⟨rfl, rfl⟩, fun _ => rfl⟩

/-- Every form of CPX, encoded as listed, compares X (R253). -/
theorem runsAs_of_mem_cpxForms (hf : f ∈ cpxForms o w) : RunsAs cpx f := by
  simp only [cpxForms, List.mem_cons, List.not_mem_nil, or_false] at hf
  rcases hf with rfl | rfl | rfl <;> exact ⟨⟨rfl, rfl⟩, fun _ => rfl⟩

/-- Every form of CPY, encoded as listed, compares Y (R254). -/
theorem runsAs_of_mem_cpyForms (hf : f ∈ cpyForms o w) : RunsAs cpy f := by
  simp only [cpyForms, List.mem_cons, List.not_mem_nil, or_false] at hf
  rcases hf with rfl | rfl | rfl <;> exact ⟨⟨rfl, rfl⟩, fun _ => rfl⟩

end

/-! ### The exact next states -/

/-- Settles O39: a listed form is ADC in its mode, `adc_eq` says what that does, and the rule's mask of V is the
adder's bit 7. -/
theorem adcResults : Obligations.AdcResults := by
  unfold Obligations.AdcResults
  rintro o w s f hf m res r rfl rfl rfl
  refine (runsAs_of_mem_adcForms hf).encoded_and_exec ?_
  rw [adc_eq, and_0x80_bne_zero]; rfl

/-- Settles O40: a listed form is SBC in its mode, and `sbc_eq` says that it is the adder on the complement. -/
theorem sbcResults : Obligations.SbcResults := by
  unfold Obligations.SbcResults
  rintro o w s f hf mc res r rfl rfl rfl
  refine (runsAs_of_mem_sbcForms hf).encoded_and_exec ?_
  rw [sbc_eq, and_0x80_bne_zero]; rfl

/-- Settles O43: a listed form is CMP, CPX or CPY in its mode, and `cmp_eq`, `cpx_eq` and `cpy_eq` say what that
does. -/
theorem compareResults : Obligations.CompareResults := by
  unfold Obligations.CompareResults
  intro o w s
  refine ⟨?_, ?_, ?_⟩ <;> rintro f hf m rfl
  · exact (runsAs_of_mem_cmpForms hf).encoded_and_exec (cmp_eq f.mode s)
  · exact (runsAs_of_mem_cpxForms hf).encoded_and_exec (cpx_eq f.mode s)
  · exact (runsAs_of_mem_cpyForms hf).encoded_and_exec (cpy_eq f.mode s)

/-! ### What ADC and SBC leave, as integers -/

section
variable {s t : State} {r : Sum}

/-- C of a state whose P comes from the adder. -/
theorem flag_c_of_setSum (h : t.p = (setSum r s).p) : t.flag .c = r.carry := by
  simp [State.flag, h]

/-- V of a state whose P comes from the adder. -/
theorem flag_v_of_setSum (h : t.p = (setSum r s).p) : t.flag .v = r.overflow := by
  simp [State.flag, h]

end

/-- A after LDA. -/
theorem lda_a (m : Mode) (s : State) : (lda m s).a = operandByte m s := by rw [lda_eq]

/-- A after ADC. -/
theorem adc_a (m : Mode) (s : State) : (adc m s).a = (addBytes s.a (operandByte m s) (s.flag .c)).res := by
  rw [adc_eq]; rfl

/-- A after SBC. -/
theorem sbc_a (m : Mode) (s : State) : (sbc m s).a = (subBytes s.a (operandByte m s) (s.flag .c)).res := by
  rw [sbc_eq]; rfl

/-- Settles O41: A, C and V come from the adder, whose laws say what they are as integers. -/
theorem adderIsIntegerArithmetic : Obligations.AdderIsIntegerArithmetic := by
  unfold Obligations.AdderIsIntegerArithmetic
  rintro s m c rfl
  refine ⟨⟨_, exec_adcImm m s, ?_⟩, ⟨_, exec_sbcImm m s, ?_⟩⟩
  · rw [adc_a, flag_c_of_setSum (adc_p (.imm m) s), flag_v_of_setSum (adc_p (.imm m) s), operandByte_imm]
    exact ⟨toNat_addBytes_res .., addBytes_carry_iff .., addBytes_overflow_iff ..⟩
  · rw [sbc_a, flag_c_of_setSum (sbc_p (.imm m) s), flag_v_of_setSum (sbc_p (.imm m) s), operandByte_imm]
    exact ⟨toNat_subBytes_res .., subBytes_carry_iff .., subBytes_overflow_iff ..⟩

/-- Settles O42: the load between the two ADCs keeps C, so the second adds the carry of the first, and
`addBytes_chain` says what that gives. -/
theorem chainedAdcAddsWords : Obligations.ChainedAdcAddsWords := by
  unfold Obligations.ChainedAdcAddsWords
  intro s b c
  refine ⟨_, _, _, exec_adcImm .., exec_ldaImm .., exec_adcImm .., ?_⟩
  rw [flag_c_of_setSum (adc_p ..), adc_a, adc_a]
  refine addBytes_chain b c (s.flag .c) rfl ?_
  rw [lda_a, operandByte_imm, operandByte_imm, flag_eq_of_putZN (lda_p ..) (by decide), flag_c_of_setSum (adc_p ..)]

/-! ### The decimal flag -/

/-- The flags of a byte are all its bits. -/
theorem eq_of_getFlag_eq {p q : Byte} (h : ∀ f, getFlag f p = getFlag f q) : p = q := by
  refine BitVec.eq_of_getLsbD_eq fun i hi => ?_
  obtain ⟨f, rfl⟩ : ∃ f, flagBit f = i := by
    interval_cases i
    exacts [⟨.c, rfl⟩, ⟨.z, rfl⟩, ⟨.i, rfl⟩, ⟨.d, rfl⟩, ⟨.b, rfl⟩, ⟨.u, rfl⟩, ⟨.v, rfl⟩, ⟨.n, rfl⟩]
  exact h f

/-- Writes of two different flags commute. -/
theorem putFlag_comm {f g : Flag} (hne : f ≠ g) (x y : Bool) (p : Byte) :
    putFlag f x (putFlag g y p) = putFlag g y (putFlag f x p) := by
  refine eq_of_getFlag_eq fun k => ?_
  simp only [getFlag_putFlag]
  by_cases hf : k = f
  · subst hf; simp [hne]
  · simp [hf]

/-- What the adder leaves does not depend on D, and keeps it (R44, R256). -/
theorem setSum_setFlag_d (r : Sum) (s : State) (on : Bool) :
    setSum r (s.setFlag .d on) = (setSum r s).setFlag .d on := by
  simp only [setSum, State.setFlag, putZN]
  rw [putFlag_comm (by decide : Flag.c ≠ .d), putFlag_comm (by decide : Flag.v ≠ .d),
    putFlag_comm (by decide : Flag.z ≠ .d), putFlag_comm (by decide : Flag.n ≠ .d)]

section
variable (m : Mode) (s : State) (on : Bool)

/-- The operand byte, its accesses and the bonus are those of any P (R160, R177). -/
theorem operand_setFlag (f : Flag) :
    operandByte m (s.setFlag f on) = operandByte m s ∧ operandReads m (s.setFlag f on) = operandReads m s ∧
      crossBonus m (s.setFlag f on) = crossBonus m s := by
  cases m <;> exact ⟨rfl, rfl, rfl⟩

/-- Writing D keeps the carry that the adder takes in. -/
theorem flag_c_setFlag_d : (s.setFlag .d on).flag .c = s.flag .c :=
  flag_eq_of_putFlag (setFlag_p s .d on) (by decide)

/-- ADC commutes with writing D: its operand, its carry and what the adder leaves do. -/
theorem adc_setFlag_d : adc m (s.setFlag .d on) = (adc m s).setFlag .d on := by
  simp only [adc_eq, operand_setFlag, flag_c_setFlag_d, setSum_setFlag_d, setFlag_a]; rfl

/-- SBC commutes with writing D in the same way. -/
theorem sbc_setFlag_d : sbc m (s.setFlag .d on) = (sbc m s).setFlag .d on := by
  simp only [sbc_eq, operand_setFlag, flag_c_setFlag_d, setSum_setFlag_d, setFlag_a]; rfl

end

/-- Settles O29: a listed form is ADC or SBC in its mode, and either commutes with writing D. -/
theorem decimalIgnored : Obligations.DecimalIgnored := by
  unfold Obligations.DecimalIgnored
  intro o w s on f hf
  rcases List.mem_append.mp hf with hf | hf
  · have hrun := (runsAs_of_mem_adcForms hf).exec_eq
    exact ⟨_, hrun s, by rw [hrun, adc_setFlag_d]⟩
  · have hrun := (runsAs_of_mem_sbcForms hf).exec_eq
    exact ⟨_, hrun s, by rw [hrun, sbc_setFlag_d]⟩

end Sys2Proof.Proofs
end

section
/-! PROOFS. The increments, the decrements, the shifts and the rotates (R270 to R284): the exact next state of every
form, and that ROR A undoes ASL A. -/

namespace Sys2Proof.Proofs

open Sys2Proof.Machine Sys2Proof.Laws

/-! ### The forms of a rule that modify memory -/

/-- A form that runs as its rule's operation and has no Immediate mode, so that there is an address to write back to
(R284). -/
structure ModifiesAs (op : Mode → State → State) (f : Form) : Prop extends RunsAs op f where
  notImm : ∀ v, f.mode ≠ .imm v

/-- The forms of each shift or rotate on memory. -/
def shiftForms : ShiftOp → Byte → Word → List Form
  | .asl => aslForms
  | .lsr => lsrForms
  | .rol => rolForms
  | .ror => rorForms

section

variable {o : Byte} {w : Word} {f : Form}

/-- Every form of INC on memory, encoded as listed, increments (R270). -/
theorem modifiesAs_of_mem_incForms (hf : f ∈ incForms o w) : ModifiesAs incMem f := by
  simp only [incForms, List.mem_cons, List.not_mem_nil, or_false] at hf
  rcases hf with rfl | rfl | rfl | rfl <;> exact ⟨⟨⟨rfl, rfl⟩, fun _ => rfl⟩, fun _ => nofun⟩

/-- Every form of DEC on memory, encoded as listed, decrements (R271). -/
theorem modifiesAs_of_mem_decForms (hf : f ∈ decForms o w) : ModifiesAs decMem f := by
  simp only [decForms, List.mem_cons, List.not_mem_nil, or_false] at hf
  rcases hf with rfl | rfl | rfl | rfl <;> exact ⟨⟨⟨rfl, rfl⟩, fun _ => rfl⟩, fun _ => nofun⟩

/-- Every form of a shift or rotate on memory, encoded as listed, is that shift or rotate (R280 to R283). -/
theorem modifiesAs_of_mem_shiftForms {op : ShiftOp} (hf : f ∈ shiftForms op o w) : ModifiesAs (shiftMem op) f := by
  cases op <;>
    simp only [shiftForms, aslForms, lsrForms, rolForms, rorForms, List.mem_cons, List.not_mem_nil, or_false] at hf <;>
    rcases hf with rfl | rfl | rfl | rfl <;> exact ⟨⟨⟨rfl, rfl⟩, fun _ => rfl⟩, fun _ => nofun⟩

/-- What a form of a shift or rotate on memory does: the byte `r` and the bit `out` that `shiftByte` gives for the
operand and the carry, written back with their flags. -/
theorem encoded_and_exec_of_mem_shiftForms {s : State} {r : Byte} {out : Bool} (op : ShiftOp)
    (hf : f ∈ shiftForms op o w) (hr : shiftByte op (s.flag .c) (operandByte f.mode s) = ⟨r, out⟩) :
    f.encoded ∧ exec f.instr s = .next (shiftedMem f.mode r out s) := by
  have hm := modifiesAs_of_mem_shiftForms hf
  exact hm.encoded_and_exec (by rw [shiftMem_eq op f.mode s hm.notImm, hr])

end

/-! ### Increments and decrements -/

/-- Settles O44: a listed form is INC or DEC in its mode, and `incMem_eq` and `decMem_eq` say what that does. -/
theorem incDecMemoryResults : Obligations.IncDecMemoryResults := by
  unfold Obligations.IncDecMemoryResults
  intro o w s
  refine ⟨?_, ?_⟩ <;> rintro f hf r rfl
  · have hm := modifiesAs_of_mem_incForms hf
    exact hm.encoded_and_exec (incMem_eq f.mode s hm.notImm)
  · have hm := modifiesAs_of_mem_decForms hf
    exact hm.encoded_and_exec (decMem_eq f.mode s hm.notImm)

/-- Settles O45: each of the six changes its register by one and sets Z and N from it. -/
theorem registerIncDecResults : Obligations.RegisterIncDecResults := by
  unfold Obligations.RegisterIncDecResults
  intro s
  exact ⟨
    ⟨⟨rfl, rfl⟩, exec_inx s⟩, ⟨⟨rfl, rfl⟩, exec_dex s⟩,
    ⟨⟨rfl, rfl⟩, exec_iny s⟩, ⟨⟨rfl, rfl⟩, exec_dey s⟩,
    ⟨⟨rfl, rfl⟩, exec_incA s⟩, ⟨⟨rfl, rfl⟩, exec_decA s⟩⟩

/-! ### Shifts and rotates -/

/-- ROL brings the carry in at bit 0 (R282). -/
theorem shiftByte_rol (s : State) (v : Byte) :
    shiftByte .rol (s.flag .c) v = ⟨(v <<< 1) ||| carryByte s, v.getLsbD 7⟩ := rfl

/-- ROR brings the carry in at bit 7 (R283). -/
theorem shiftByte_ror (s : State) (v : Byte) :
    shiftByte .ror (s.flag .c) v = ⟨(v >>> 1) ||| (carryByte s <<< 7), v.getLsbD 0⟩ := by
  unfold shiftByte carryByte
  cases s.flag .c <;> rfl

/-- A shift or rotate of A: the byte `r` and the bit `out` that `shiftByte` gives for A and the carry. -/
theorem shiftAcc_eq {op : ShiftOp} {s : State} {r : Byte} {out : Bool}
    (hr : shiftByte op (s.flag .c) s.a = ⟨r, out⟩) : shiftAcc op s = shiftedAcc r out s := by
  simp only [shiftAcc, shiftedAcc, shiftStatus, hr]

/-- Settles O46: the four of A are `shiftAcc` and the listed forms `shiftMem`, both over `shiftByte`, whose result and
outgoing bit are the rules'. -/
theorem shiftResults : Obligations.ShiftResults := by
  unfold Obligations.ShiftResults
  intro o w s
  refine ⟨⟨⟨rfl, rfl⟩, ?_⟩, ⟨⟨rfl, rfl⟩, ?_⟩, ⟨⟨rfl, rfl⟩, ?_⟩, ⟨⟨rfl, rfl⟩, ?_⟩, ?_, ?_, ?_, ?_⟩
  · rw [exec_aslA, shiftAcc_eq rfl]
  · rw [exec_lsrA, shiftAcc_eq rfl]
  · rw [exec_rolA, shiftAcc_eq (shiftByte_rol s s.a)]
  · rw [exec_rorA, shiftAcc_eq (shiftByte_ror s s.a)]
  · rintro f hf v rfl; exact encoded_and_exec_of_mem_shiftForms .asl hf rfl
  · rintro f hf v rfl; exact encoded_and_exec_of_mem_shiftForms .lsr hf rfl
  · rintro f hf v rfl; exact encoded_and_exec_of_mem_shiftForms .rol hf (shiftByte_rol s _)
  · rintro f hf v rfl; exact encoded_and_exec_of_mem_shiftForms .ror hf (shiftByte_ror s _)

/-! ### ASL A and then ROR A -/

/-- The byte a rotate to the right brings in has the carry at bit 7 and nothing else. -/
theorem getLsbD_topBit (c : Bool) {i : Nat} (hi : i < 8) :
    (if c then 0x80#8 else 0x00#8).getLsbD i = (decide (i = 7) && c) := by
  cases c <;> interval_cases i <;> rfl

/-- ROR brings bit 7 back in from the carry that ASL left, and the bit that leaves is the 0 ASL shifted in. -/
theorem shiftByte_ror_asl (c : Bool) (v : Byte) :
    shiftByte .ror (shiftByte .asl c v).out (shiftByte .asl c v).res = ⟨v, false⟩ := by
  have hres : (v <<< 1 >>> 1) ||| (if v.getLsbD 7 then 0x80#8 else 0x00#8) = v := by
    refine BitVec.eq_of_getLsbD_eq fun i hi => ?_
    rw [BitVec.getLsbD_or, getLsbD_topBit _ hi, BitVec.getLsbD_ushiftRight, BitVec.getLsbD_shiftLeft]
    obtain rfl | hlt : i = 7 ∨ i < 7 := by omega
    · simp
    · simp [show 1 + i < 8 by omega, show i ≠ 7 by omega]
  have hout : (v <<< 1).getLsbD 0 = false := by simp
  exact congrArg₂ Shifted.mk hres hout

/-- Settles O47: C after ASL is the bit that left, with which `shiftByte_ror_asl` gives A back. -/
theorem aslThenRorRestores : Obligations.AslThenRorRestores := by
  unfold Obligations.AslThenRorRestores
  intro s
  have hc : (shiftAcc .asl s).flag .c = (shiftByte .asl (s.flag .c) s.a).out := by
    simp [State.flag, shiftAcc_p]
  have hu : shiftAcc .ror (shiftAcc .asl s) = shiftedAcc s.a false (shiftAcc .asl s) :=
    shiftAcc_eq (hc ▸ shiftByte_ror_asl (s.flag .c) s.a)
  refine ⟨_, _, exec_aslA s, exec_rorA _, ?_⟩
  rw [hu]
  simp [shiftedAcc, State.flag]

end Sys2Proof.Proofs
end

section
/-! PROOFS. AND, ORA, EOR, BIT, TSB and TRB (R300 to R305): the exact next state of every form. -/

namespace Sys2Proof.Proofs

open Sys2Proof.Machine Sys2Proof.Laws

/-! ### The forms of a rule over its operation -/

section

variable {o : Byte} {w : Word} {f : Form}

/-- Every form of AND, encoded as listed, is AND of A (R300). -/
theorem runsAs_of_mem_andForms (hf : f ∈ andForms o w) : RunsAs andA f := by
  simp only [andForms, List.mem_cons, List.not_mem_nil, or_false] at hf
  rcases hf with rfl | rfl | rfl | rfl | rfl | rfl | rfl | rfl | rfl <;> exact ⟨⟨rfl, rfl⟩, fun _ => rfl⟩

/-- Every form of ORA, encoded as listed, is OR of A (R301). -/
theorem runsAs_of_mem_oraForms (hf : f ∈ oraForms o w) : RunsAs oraA f := by
  simp only [oraForms, List.mem_cons, List.not_mem_nil, or_false] at hf
  rcases hf with rfl | rfl | rfl | rfl | rfl | rfl | rfl | rfl | rfl <;> exact ⟨⟨rfl, rfl⟩, fun _ => rfl⟩

/-- Every form of EOR, encoded as listed, is exclusive OR of A (R302). -/
theorem runsAs_of_mem_eorForms (hf : f ∈ eorForms o w) : RunsAs eorA f := by
  simp only [eorForms, List.mem_cons, List.not_mem_nil, or_false] at hf
  rcases hf with rfl | rfl | rfl | rfl | rfl | rfl | rfl | rfl | rfl <;> exact ⟨⟨rfl, rfl⟩, fun _ => rfl⟩

/-- Every form of BIT, encoded as listed, tests against A (R303). -/
theorem runsAs_of_mem_bitForms (hf : f ∈ bitForms o w) : RunsAs bitTest f := by
  simp only [bitForms, List.mem_cons, List.not_mem_nil, or_false] at hf
  rcases hf with rfl | rfl | rfl | rfl | rfl <;> exact ⟨⟨rfl, rfl⟩, fun _ => rfl⟩

/-- Every form of TSB, encoded as listed, tests and sets bits of memory (R304). -/
theorem modifiesAs_of_mem_tsbForms (hf : f ∈ tsbForms o w) : ModifiesAs tsb f := by
  simp only [tsbForms, List.mem_cons, List.not_mem_nil, or_false] at hf
  rcases hf with rfl | rfl <;> exact ⟨⟨⟨rfl, rfl⟩, fun _ => rfl⟩, fun _ => nofun⟩

/-- Every form of TRB, encoded as listed, tests and resets bits of memory (R305). -/
theorem modifiesAs_of_mem_trbForms (hf : f ∈ trbForms o w) : ModifiesAs trb f := by
  simp only [trbForms, List.mem_cons, List.not_mem_nil, or_false] at hf
  rcases hf with rfl | rfl <;> exact ⟨⟨⟨rfl, rfl⟩, fun _ => rfl⟩, fun _ => nofun⟩

end

/-! ### AND, ORA and EOR -/

/-- Settles O48: a listed form is AND, ORA or EOR in its mode, and `andA_eq`, `oraA_eq` and `eorA_eq` say what that
does. -/
theorem logicResults : Obligations.LogicResults := by
  unfold Obligations.LogicResults
  intro o w s
  refine ⟨?_, ?_, ?_⟩ <;> rintro f hf r rfl
  · exact (runsAs_of_mem_andForms hf).encoded_and_exec (andA_eq f.mode s)
  · exact (runsAs_of_mem_oraForms hf).encoded_and_exec (oraA_eq f.mode s)
  · exact (runsAs_of_mem_eorForms hf).encoded_and_exec (eorA_eq f.mode s)

/-! ### BIT -/

section

variable (g : Flag) (a v p : Byte)

/-- A flag after BIT Immediate, which writes Z alone (R303). -/
theorem getFlag_bitStatus_imm (i : Byte) :
    getFlag g (bitStatus (.imm i) a v p) = if g = .z then (a &&& v) == 0x00#8 else getFlag g p :=
  getFlag_putFlag g .z _ p

/-- A flag after BIT in a mode that reads memory (R303). -/
theorem getFlag_bitStatus_of_ne_imm {m : Mode} (hm : ∀ i, m ≠ .imm i) :
    getFlag g (bitStatus m a v p) =
      if g = .z then (a &&& v) == 0x00#8 else if g = .n then v.getLsbD 7
      else if g = .v then v.getLsbD 6 else getFlag g p := by
  have hstatus : bitStatus m a v p =
      putFlag .v (v.getLsbD 6) (putFlag .n (v.getLsbD 7) (putFlag .z ((a &&& v) == 0x00#8) p)) := by
    cases m
    case imm i => exact absurd rfl (hm i)
    all_goals rfl
  rw [hstatus]
  cases g <;> simp

end

/-- Among the forms of BIT, opcode 89 is the Immediate one and no other is (R303). -/
theorem bitForms_opcode_or_notImm {o : Byte} {w : Word} {f : Form} (hf : f ∈ bitForms o w) :
    (f.opcode = 0x89#8 ∧ f.mode = .imm o) ∨ (f.opcode ≠ 0x89#8 ∧ ∀ i, f.mode ≠ .imm i) := by
  simp only [bitForms, List.mem_cons, List.not_mem_nil, or_false] at hf
  rcases hf with rfl | rfl | rfl | rfl | rfl
  case inr.inr.inr.inr => exact .inl ⟨rfl, rfl⟩
  all_goals exact .inr ⟨by simp, fun _ => nofun⟩

/-- Settles O49: a listed form is BIT in its mode, `bitTest_eq` says what that does, and the flags of the P it leaves
are read off by whether the form is the Immediate one. -/
theorem bitTestResults : Obligations.BitTestResults := by
  unfold Obligations.BitTestResults
  rintro o w s f hf m rfl
  obtain ⟨hencoded, hexec⟩ := (runsAs_of_mem_bitForms hf).encoded_and_exec (bitTest_eq f.mode s)
  refine ⟨hencoded, _, fun g => ?_, hexec⟩
  rcases bitForms_opcode_or_notImm hf with ⟨hop, himm⟩ | ⟨hop, hnotImm⟩
  · rw [himm, getFlag_bitStatus_imm]
    simp [hop, State.flag]
  · rw [getFlag_bitStatus_of_ne_imm _ _ _ _ hnotImm]
    simp [hop, State.flag]

/-! ### TSB and TRB -/

/-- The model's complement of a byte is the bitwise one. -/
theorem xor_0xFF (a : Byte) : a ^^^ 0xFF#8 = ~~~a := BitVec.xor_allOnes

/-- Settles O50: a listed form is TSB or TRB in its mode, and `tsb_eq` and `trb_eq` say what that does. -/
theorem testAndModifyResults : Obligations.TestAndModifyResults := by
  unfold Obligations.TestAndModifyResults
  intro o w s
  refine ⟨?_, ?_⟩ <;> rintro f hf m rfl
  · have hm := modifiesAs_of_mem_tsbForms hf
    exact hm.encoded_and_exec (tsb_eq f.mode s hm.notImm)
  · have hm := modifiesAs_of_mem_trbForms hf
    exact hm.encoded_and_exec (xor_0xFF s.a ▸ trb_eq f.mode s hm.notImm)

end Sys2Proof.Proofs
end

section
/-! PROOFS. JMP, JSR, RTS, RTI, BRK and the branches (R320 to R339): the exact next state of every form, and that RTS
returns from JSR. -/

namespace Sys2Proof.Proofs

open Sys2Proof.Machine Sys2Proof.Laws

/-! ### Jumps, calls and returns -/

/-- Every form of JMP, encoded as listed, jumps (R320). -/
theorem runsAs_of_mem_jmpForms {o : Byte} {w : Word} {f : Form} (hf : f ∈ jmpForms o w) : RunsAs jmp f := by
  simp only [jmpForms, List.mem_cons, List.not_mem_nil, or_false] at hf
  rcases hf with rfl | rfl | rfl <;> exact ⟨⟨rfl, rfl⟩, fun _ => rfl⟩

/-- Settles O51: `jmp_eq`, `jsr_eq`, `rts_eq` and `returnFromException_eq` say what each leaves, and the bytes pulled are
the answers of their `readsOf`. -/
theorem jumpCallReturnResults : Obligations.JumpCallReturnResults := by
  unfold Obligations.JumpCallReturnResults
  intro o w s
  refine ⟨fun f hf => (runsAs_of_mem_jmpForms hf).encoded_and_exec (jmp_eq f.mode s),
    ⟨⟨rfl, rfl⟩, congrArg _ (jsr_eq w s)⟩, ?_⟩
  rintro r1 r2 b1 b2 b3 rfl rfl rfl rfl rfl
  exact ⟨⟨⟨rfl, rfl⟩, congrArg _ (rts_eq s)⟩, ⟨⟨rfl, rfl⟩, congrArg _ (returnFromException_eq s)⟩⟩

/-! ### JSR and then RTS -/

section

variable {s : State} (w : Word)

/-- The low byte of a word pushed, the later of the two writes, is at the lower stack address if that is RAM (R83). -/
theorem read_pushedWordMem_low (hwf : Memory.wf s.mem = true) (hram : s.kindAt (stackAddr (s.sp - 1#8)) = .ram) :
    Memory.read (pushedWordMem w s) (stackAddr (s.sp - 1#8)).toNat = lo w := by
  rw [pushedWordMem, busWrite_ram _ _ hram]
  exact read_write_same _ 0 _ _ (wf_busWrite s.map s.mem _ _ hwf)

/-- The high byte of a word pushed is at the upper stack address if that is RAM, which the write of the low byte leaves
alone (R83). -/
theorem read_pushedWordMem_high (hwf : Memory.wf s.mem = true) (hram : s.kindAt (stackAddr s.sp) = .ram) :
    Memory.read (pushedWordMem w s) (stackAddr s.sp).toNat = hi w := by
  have hne : stackAddr s.sp ≠ stackAddr (s.sp - 1#8) := fun h => by
    have hsp : s.sp = s.sp - 1#8 := stackAddr_inj.1 h
    bv_omega
  rw [pushedWordMem, read_busWrite_ne _ _ _ hne, busWrite_ram _ _ hram]
  exact read_write_same s.mem 0 _ _ hwf

/-- RTS finds the word and the stack pointer of a push into RAM (R322), across the stack's wrap too, in every state that
has the push's map, memory and stack pointer. -/
theorem rts_of_pushedWord {t : State} (hwf : Memory.wf s.mem = true) (hhigh : s.kindAt (stackAddr s.sp) = .ram)
    (hlow : s.kindAt (stackAddr (s.sp - 1#8)) = .ram) (hmap : t.map = s.map) (hmem : t.mem = pushedWordMem w s)
    (hsp : t.sp = s.sp - 2#8) : (rts t).pc = w + 1#16 ∧ (rts t).sp = s.sp := by
  have hsp1 : t.sp + 1#8 = s.sp - 1#8 := by rw [hsp]; bv_omega
  have hsp2 : t.sp + 2#8 = s.sp := by rw [hsp, BitVec.sub_add_cancel]
  have hword : t.peekWord (stackAddr (s.sp - 1#8)) (stackAddr s.sp) = w := by
    rw [peekWord_memory (by rw [kindAt_congr hmap, hlow]; nofun) (by rw [kindAt_congr hmap, hhigh]; nofun), hmem,
      read_pushedWordMem_low w hwf hlow, read_pushedWordMem_high w hwf hhigh, mkWord_hi_lo]
  rw [rts_eq, hsp1, hsp2, hword]
  exact ⟨rfl, rfl⟩

end

/-- Settles O52: `rts_of_pushedWord` for the word JSR pushes, one less than the address of the byte after it. -/
theorem jsrThenRtsReturns : Obligations.JsrThenRtsReturns := by
  unfold Obligations.JsrThenRtsReturns
  intro s w hwf hhigh hlow
  have hjsr := jsr_eq w s
  obtain ⟨hpc, hsp⟩ := rts_of_pushedWord (t := jsr (.abs w) s) (s.pc - 1#16) hwf hhigh hlow
    (by rw [hjsr]) (by rw [hjsr]) (by rw [hjsr])
  exact ⟨_, _, exec_jsr w s, by rw [hjsr], exec_rts _, hpc.trans (BitVec.sub_add_cancel ..), hsp⟩

/-! ### BRK -/

/-- P on entry to a handler: I set, and D cleared on WDC65C02 only (R324). -/
theorem entryStatus_eq_ite (v : Variant) (p : Byte) :
    entryStatus v p = if v = .wdc65c02 then putFlag .d false (putFlag .i true p) else putFlag .i true p := by
  cases v <;> rfl

/-- Settles O53: `brk_eq` says what BRK leaves, with the P of `entryStatus_eq_ite`. -/
theorem brkResult : Obligations.BrkResult := by
  unfold Obligations.BrkResult
  intro s
  refine ⟨⟨rfl, rfl⟩, ?_⟩
  rw [exec_brk, brk_eq, entryStatus_eq_ite]
  rfl

/-! ### The branches -/

/-- Every conditional branch, encoded as listed, is `branchIf` of its flag and sense (R330 to R338). -/
theorem encoded_and_exec_of_mem_branchForms {off : Byte} {q : Byte × Instr × Flag × Bool} (hq : q ∈ branchForms off)
    (s : State) : encodedAs q.2.1 q.1 true ∧ exec q.2.1 s = .next (branchIf q.2.2.1 q.2.2.2 off s) := by
  simp only [branchForms, List.mem_cons, List.not_mem_nil, or_false] at hq
  rcases hq with rfl | rfl | rfl | rfl | rfl | rfl | rfl | rfl <;> exact ⟨⟨rfl, rfl⟩, rfl⟩

/-- Settles O55: a listed branch is `branchIf` and BRA is `branchAlways`, and `branchIf_eq` and `branchAlways_eq` say
what those do. -/
theorem branchResults : Obligations.BranchResults := by
  unfold Obligations.BranchResults
  rintro off s target rfl
  refine ⟨fun q hq => ?_, ⟨rfl, rfl⟩, congrArg _ (branchAlways_eq off s)⟩
  obtain ⟨hencoded, hexec⟩ := encoded_and_exec_of_mem_branchForms hq s
  exact ⟨hencoded, hexec.trans (congrArg _ (branchIf_eq _ _ off s))⟩

end Sys2Proof.Proofs
end

section
/-! PROOFS. The flag instructions, NOP and the reserved opcodes, the bit instructions, WAI and STP (R350 to R357,
R370 to R373, R390, R392, R394): the exact next state of every form. -/

namespace Sys2Proof.Proofs

open Sys2Proof.Machine Sys2Proof.Laws

/-! ### The flag instructions -/

/-- Every flag instruction, encoded as listed, writes its flag (R350 to R356). -/
theorem encoded_and_exec_of_mem_flagForms {q : Byte × Instr × Flag × Bool} (hq : q ∈ flagForms) (s : State) :
    encodedAs q.2.1 q.1 true ∧ exec q.2.1 s = .next (s.setFlag q.2.2.1 q.2.2.2) := by
  simp only [flagForms, List.mem_cons, List.not_mem_nil, or_false] at hq
  rcases hq with rfl | rfl | rfl | rfl | rfl | rfl | rfl <;> exact ⟨⟨rfl, rfl⟩, rfl⟩

/-- Settles O56: a listed instruction is `setFlag` of its flag and value, which writes P alone. -/
theorem flagInstructionResults : Obligations.FlagInstructionResults := by
  unfold Obligations.FlagInstructionResults
  exact fun s q hq => encoded_and_exec_of_mem_flagForms hq s

/-! ### NOP and the reserved opcodes -/

/-- Every reserved opcode, with the bytes and the published cycles of its row, does nothing (R394, R129): with operand
bytes it resolves a mode that reads no pointer. -/
theorem nop_of_mem_reservedForms {o : Byte} {w : Word} {q : Byte × Instr × Nat × Nat} (hq : q ∈ reservedForms o w)
    (s : State) : encodedAs q.2.1 q.1 false ∧ exec q.2.1 s = .next s ∧ q.2.1.length = q.2.2.1 ∧
      baseCycles publishedCycles .wdc65c02 q.1 = q.2.2.2 := by
  simp only [reservedForms, List.mem_cons, List.not_mem_nil, or_false] at hq
  rcases hq with rfl | rfl | rfl | rfl | rfl | rfl | rfl | rfl | rfl | rfl | rfl | rfl | rfl | rfl | rfl | rfl | rfl |
    rfl | rfl | rfl | rfl | rfl | rfl | rfl | rfl | rfl | rfl | rfl | rfl | rfl | rfl | rfl | rfl | rfl | rfl | rfl |
    rfl | rfl | rfl | rfl | rfl | rfl | rfl | rfl <;>
    exact ⟨⟨rfl, rfl⟩, rfl, rfl, rfl⟩

/-- Settles O57: NOP and every reserved opcode answer the state itself; the length and the cycles are evaluated. -/
theorem nopResults : Obligations.NopResults := by
  unfold Obligations.NopResults
  refine fun o w s => ⟨⟨⟨rfl, rfl⟩, exec_nop s, rfl, ?_⟩, fun q hq => nop_of_mem_reservedForms hq s⟩
  cases s.variant <;> rfl

/-! ### RMBn and SMBn -/

section

variable {o : Byte} {q : Nat × Form}

/-- Every form of RMBn, encoded as listed, is `rmb` of its bit, through a zero-page address (R370). -/
theorem encoded_and_exec_of_mem_rmbForms (hq : q ∈ rmbForms o) (s : State) :
    q.2.encoded ∧ q.2.mode = .zp o ∧ exec q.2.instr s = .next (rmb q.1 o s) := by
  simp only [rmbForms, List.mem_cons, List.not_mem_nil, or_false] at hq
  rcases hq with rfl | rfl | rfl | rfl | rfl | rfl | rfl | rfl <;> exact ⟨⟨rfl, rfl⟩, rfl, rfl⟩

/-- Every form of SMBn, encoded as listed, is `smb` of its bit, through a zero-page address (R371). -/
theorem encoded_and_exec_of_mem_smbForms (hq : q ∈ smbForms o) (s : State) :
    q.2.encoded ∧ q.2.mode = .zp o ∧ exec q.2.instr s = .next (smb q.1 o s) := by
  simp only [smbForms, List.mem_cons, List.not_mem_nil, or_false] at hq
  rcases hq with rfl | rfl | rfl | rfl | rfl | rfl | rfl | rfl <;> exact ⟨⟨rfl, rfl⟩, rfl, rfl⟩

end

/-- Settles O58: a listed form is `rmb` or `smb` of its bit, and `rmb_eq` and `smb_eq` say what those do. -/
theorem memoryBitResults : Obligations.MemoryBitResults := by
  unfold Obligations.MemoryBitResults
  refine fun o s => ⟨fun q hq => ?_, fun q hq => ?_⟩
  · obtain ⟨hencoded, hmode, hexec⟩ := encoded_and_exec_of_mem_rmbForms hq s
    exact ⟨hencoded, by rw [hexec, hmode, rmb_eq, xor_0xFF]⟩
  · obtain ⟨hencoded, hmode, hexec⟩ := encoded_and_exec_of_mem_smbForms hq s
    exact ⟨hencoded, by rw [hexec, hmode, smb_eq]⟩

/-! ### BBRn and BBSn -/

section

variable {zp off : Byte} {q : Nat × Byte × Instr}

/-- Every form of BBRn, encoded as listed, branches on its bit being 0 (R372). -/
theorem encoded_and_exec_of_mem_bbrForms (hq : q ∈ bbrForms zp off) (s : State) :
    encodedAs q.2.2 q.2.1 false ∧ exec q.2.2 s = .next (branchOnBit q.1 false zp off s) := by
  simp only [bbrForms, List.mem_cons, List.not_mem_nil, or_false] at hq
  rcases hq with rfl | rfl | rfl | rfl | rfl | rfl | rfl | rfl <;> exact ⟨⟨rfl, rfl⟩, rfl⟩

/-- Every form of BBSn, encoded as listed, branches on its bit being 1 (R373). -/
theorem encoded_and_exec_of_mem_bbsForms (hq : q ∈ bbsForms zp off) (s : State) :
    encodedAs q.2.2 q.2.1 false ∧ exec q.2.2 s = .next (branchOnBit q.1 true zp off s) := by
  simp only [bbsForms, List.mem_cons, List.not_mem_nil, or_false] at hq
  rcases hq with rfl | rfl | rfl | rfl | rfl | rfl | rfl | rfl <;> exact ⟨⟨rfl, rfl⟩, rfl⟩

end

/-- Settles O59: a listed form is `branchOnBit` of its bit and sense, and `branchOnBit_eq` says what that does. -/
theorem bitBranchResults : Obligations.BitBranchResults := by
  unfold Obligations.BitBranchResults
  rintro zp off s m target t rfl rfl rfl
  have hbranch (n : Nat) (sense : Bool) := branchOnBit_eq n sense zp off s
  rw [zext16_eq_mkWord] at hbranch
  refine ⟨fun q hq => ?_, fun q hq => ?_⟩
  · obtain ⟨hencoded, hexec⟩ := encoded_and_exec_of_mem_bbrForms hq s
    exact ⟨hencoded, hexec.trans (congrArg _ (hbranch q.1 false))⟩
  · obtain ⟨hencoded, hexec⟩ := encoded_and_exec_of_mem_bbsForms hq s
    exact ⟨hencoded, hexec.trans (congrArg _ (hbranch q.1 true))⟩

/-! ### WAI and STP -/

/-- Settles O60: `exec_wai` and `exec_stp` say what each sets; the cycles are evaluated. -/
theorem waiStpResults : Obligations.WaiStpResults := by
  unfold Obligations.WaiStpResults
  exact fun s => ⟨⟨⟨rfl, rfl⟩, exec_wai s, rfl⟩, ⟨⟨rfl, rfl⟩, exec_stp s, rfl⟩⟩

end Sys2Proof.Proofs
end

section
/-! PROOFS. Every instruction completes, with at most two cycles of bonus (R417, R476), so from the first reset on every
step answers; neither changes a parameter (R6, R46). -/

namespace Sys2Proof.Proofs

open Sys2Proof.Machine Sys2Proof.Laws

/-! ### What an instruction charges -/

/-- The state `t` has at most two cycles of bonus more than `s` (R476). -/
def Charges (s t : State) : Prop := s.cycles ≤ t.cycles ∧ t.cycles ≤ s.cycles + 2

section
variable {s t u : State} (h : t = u)
include h

theorem charges_of_bonus {bonus : Nat} (hle : bonus ≤ 2) (hu : u.cycles = s.cycles + bonus) : Charges s t := by
  subst h
  exact ⟨by omega, by omega⟩

/-- No bonus. -/
theorem charges_of_noBonus (hu : u.cycles = s.cycles) : Charges s t := charges_of_bonus h (bonus := 0) (by decide) hu

/-- The bonus of a read in a mode that reports page crosses (R177). -/
theorem charges_of_crossBonus (m : Mode) (hu : u.cycles = s.cycles + crossBonus m s) : Charges s t :=
  charges_of_bonus h (Nat.le_succ_of_le (crossBonus_le m s)) hu

end

section
variable (s : State)

/-- A shift of memory charges the page cross on WDC65C02 only (R284). -/
theorem shiftMem_charges (op : ShiftOp) (m : Mode) (hm : ∀ v, m ≠ .imm v) : Charges s (shiftMem op m s) := by
  rw [shiftMem_eq op m s hm]
  refine charges_of_bonus rfl (bonus := if s.variant = .wdc65c02 then crossBonus m s else 0) ?_ rfl
  have := crossBonus_le m s
  split <;> omega

theorem branchIf_charges (f : Flag) (sense : Bool) (off : Byte) : Charges s (branchIf f sense off s) := by
  rw [branchIf_eq]
  split
  · exact charges_of_bonus rfl (takenCost_le _ _) rfl
  · exact charges_of_noBonus rfl rfl

theorem branchAlways_charges (off : Byte) : Charges s (branchAlways off s) := by
  rw [branchAlways_eq]
  exact charges_of_bonus rfl (by split <;> decide) rfl

theorem branchOnBit_charges (n : Nat) (sense : Bool) (zp off : Byte) : Charges s (branchOnBit n sense zp off s) := by
  rw [branchOnBit_eq]
  split
  · exact charges_of_bonus rfl (takenCost_le _ _) rfl
  · exact charges_of_noBonus rfl rfl

end

/-! ### Every instruction completes -/

/-- Every instruction answers a next state, which has at most two cycles of bonus: those of a page cross or of a taken
branch (R417, R476). -/
theorem exec_completes (i : Instr) (s : State) : ∃ t, exec i s = .next t ∧ Charges s t := by
  cases i with
  -- one operand read in a mode that reports page crosses (R177)
  | ldaIndY | ldaAbsY | ldaAbsX => exact ⟨_, rfl, charges_of_crossBonus (lda_eq _ s) _ rfl⟩
  | ldxAbsY => exact ⟨_, rfl, charges_of_crossBonus (ldx_eq _ s) _ rfl⟩
  | ldyAbsX => exact ⟨_, rfl, charges_of_crossBonus (ldy_eq _ s) _ rfl⟩
  | adcIndY | adcAbsY | adcAbsX => exact ⟨_, rfl, charges_of_crossBonus (adc_eq _ s) _ rfl⟩
  | sbcIndY | sbcAbsY | sbcAbsX => exact ⟨_, rfl, charges_of_crossBonus (sbc_eq _ s) _ rfl⟩
  | cmpIndY | cmpAbsY | cmpAbsX => exact ⟨_, rfl, charges_of_crossBonus (cmp_eq _ s) _ rfl⟩
  | andIndY | andAbsY | andAbsX => exact ⟨_, rfl, charges_of_crossBonus (andA_eq _ s) _ rfl⟩
  | oraIndY | oraAbsY | oraAbsX => exact ⟨_, rfl, charges_of_crossBonus (oraA_eq _ s) _ rfl⟩
  | eorIndY | eorAbsY | eorAbsX => exact ⟨_, rfl, charges_of_crossBonus (eorA_eq _ s) _ rfl⟩
  | bitAbsX => exact ⟨_, rfl, charges_of_crossBonus (bitTest_eq _ s) _ rfl⟩
  -- shifts and rotates of memory (R280 to R284)
  | aslZp | aslAbs | aslZpX | aslAbsX | lsrZp | lsrAbs | lsrZpX | lsrAbsX | rolZp | rolAbs | rolZpX | rolAbsX
  | rorZp | rorAbs | rorZpX | rorAbsX => exact ⟨_, rfl, shiftMem_charges s _ _ nofun⟩
  -- branches (R330 to R339, R372, R373)
  | bcc | bcs | beq | bne | bmi | bpl | bvc | bvs => exact ⟨_, rfl, branchIf_charges s _ _ _⟩
  | bra => exact ⟨_, rfl, branchAlways_charges s _⟩
  | bbr0 | bbr1 | bbr2 | bbr3 | bbr4 | bbr5 | bbr6 | bbr7 | bbs0 | bbs1 | bbs2 | bbs3 | bbs4 | bbs5 | bbs6 | bbs7 =>
    exact ⟨_, rfl, branchOnBit_charges s _ _ _ _⟩
  -- no bonus: calls, returns and BRK, then every other instruction
  | jsr w => exact ⟨_, rfl, charges_of_noBonus (jsr_eq w s) rfl⟩
  | rti => exact ⟨_, rfl, charges_of_noBonus (returnFromException_eq s) rfl⟩
  | brk => exact ⟨_, rfl, charges_of_noBonus (brk_eq s) rfl⟩
  | _ => exact ⟨_, rfl, charges_of_noBonus rfl rfl⟩

/-! ### What a frame says of the parameters and the halt -/

section
variable {written : List Reg} {waits halts : Bool} {s t : State} (h : Keeps written waits halts s t)
include h

theorem Keeps.map : t.map = s.map := by rw [h.control]
theorem Keeps.costs : t.costs = s.costs := by rw [h.control]
theorem Keeps.answers : t.answers = s.answers := by rw [h.control]
theorem Keeps.halted : t.halted = (halts || s.halted) := by rw [h.control]

end

/-! ### The two together -/

/-- Settles O22: `exec_completes` for the next state and its cycles, `exec_keeps` for the fields no instruction
writes. -/
theorem everyInstructionCompletes : Obligations.EveryInstructionCompletes := by
  unfold Obligations.EveryInstructionCompletes
  intro i s
  obtain ⟨t, hexec, hleast, hmost⟩ := exec_completes i s
  have hk := exec_keeps hexec
  exact ⟨t, hexec, hk.variant, hk.map, hk.costs, hk.answers, hk.started, hk.resetPending, hk.nmiPending, hk.irqPending,
    hleast, hmost, hk.halted.trans (Bool.or_comm ..), hk.waiting.trans (Bool.or_comm ..)⟩

/-! ### Every step answers -/

/-- A dispatch answers a next state (R417): an undefined byte halts, and an instruction completes. -/
theorem exists_dispatch_eq_next (s : State) : ∃ t, dispatch s = .next t := by
  unfold dispatch
  split
  case h_1 => exact ⟨_, rfl⟩
  case h_2 i u _ =>
    obtain ⟨t, hexec, -⟩ := exec_completes i u
    exact ⟨_, by rw [hexec]⟩

/-- A zero-budget transition answers a next state. -/
theorem exists_transition_eq_next (s : State) : ∃ t, transition s = .next t := by
  unfold transition
  split_ifs
  case neg => exact exists_dispatch_eq_next _
  all_goals exact ⟨_, rfl⟩

/-- From the first reset on a step answers a next state (R417). -/
theorem exists_step_eq_next {s : State} (h : s.started = true) : ∃ t, step s = .next t := by
  by_cases hh : s.halted = true
  · rw [step_halted h hh]
    split <;> exact ⟨_, rfl⟩
  · have hh' : s.halted = false := eq_false_of_ne_true hh
    by_cases hc : s.cycles = 0
    · exact step_transition h hh' hc ▸ exists_transition_eq_next s
    · exact ⟨_, step_owing h hh' hc⟩

/-- A step keeps the parameters, the devices' answers and the reset that has run (R6, R46). -/
theorem step_keeps_parameters {s t : State} (h : step s = .next t) :
    t.started = s.started ∧ t.variant = s.variant ∧ t.map = s.map ∧ t.costs = s.costs ∧ t.answers = s.answers := by
  obtain ⟨-, ho⟩ := step_outcome h
  cases ho with
  | idle | countDown | undefined => exact ⟨rfl, rfl, rfl, rfl, rfl⟩
  | reset => rw [resetWithBudget_tick_eq]; exact ⟨rfl, rfl, rfl, rfl, rfl⟩
  | nmi => rw [nmiEntry_tick_eq]; exact ⟨rfl, rfl, rfl, rfl, rfl⟩
  | irq => rw [irqEntry_tick_eq]; exact ⟨rfl, rfl, rfl, rfl, rfl⟩
  | instr pc bus cost hrow hx =>
    have hk := exec_keeps hx
    exact ⟨hk.started, hk.variant, hk.map, hk.costs, hk.answers⟩

/-- Settles O18: a step answers, and keeps the parameters. -/
theorem stepAlwaysAnswers : Obligations.StepAlwaysAnswers := by
  unfold Obligations.StepAlwaysAnswers
  intro s hs
  obtain ⟨t, ht⟩ := exists_step_eq_next hs
  obtain ⟨hstarted, hkept⟩ := step_keeps_parameters ht
  exact ⟨t, ht, hstarted.trans hs, hkept⟩

end Sys2Proof.Proofs
end

section
/-! PROOFS. The step driver (R410 to R420): the cycles owed, what a zero-budget transition does in the order of its
requests, the halted core, and the dispatch of the instruction that the bytes at PC decode to. -/

namespace Sys2Proof.Proofs

open Sys2Proof.Machine Sys2Proof.Laws

/-! ### The cycles owed -/

/-- Settles O10: by induction on the number of steps; the first one takes a cycle off, and the others are no more than
are left. -/
theorem owedCyclesCountDown : Obligations.OwedCyclesCountDown := by
  unfold Obligations.OwedCyclesCountDown
  intro s k hs hh hk
  induction k generalizing s with
  | zero => rfl
  | succ k ih =>
    have hle : k ≤ s.tick.cycles := by rw [tick_cycles]; omega
    have hleft : s.tick.cycles - k = s.cycles - (k + 1) := by rw [tick_cycles]; omega
    rw [run_succ k (step_owing hs hh (by omega)), ih s.tick hs hh hle, hleft]
    rfl

/-! ### The transitions, in their order (R410, R415) -/

section
variable {s : State} (h : atTransition s)
include h

theorem step_eq_transition : step s = transition s := by
  obtain ⟨hs, hh, hc⟩ := h
  exact step_transition hs hh hc

theorem step_reset (hr : s.resetPending = true) : step s = .next s.resetWithBudget.tick :=
  (step_eq_transition h).trans (if_pos hr)

/-- A masked IRQ request outlives the step, which clears it only with I = 0 (R412). -/
theorem irqPending_of_masked (hi : s.irqPending = true) (hmask : s.flag .i = true) :
    ∃ t, step s = .next t ∧ t.irqPending = true := by
  obtain ⟨t, ht⟩ := exists_step_eq_next h.1
  obtain ⟨-, -, -, -, -, hserved⟩ := latchesClearedByTheirEntryOnly s t ht
  refine ⟨t, ht, eq_true_of_ne_false fun hcleared => ?_⟩
  obtain ⟨-, -, hunmasked⟩ := hserved hi hcleared
  exact absurd (hmask.symm.trans hunmasked) nofun

section
variable (hr : s.resetPending = false)
include hr

theorem step_nmi (hn : s.nmiPending = true) : step s = .next s.nmiEntry.tick := by
  rw [step_eq_transition h, transition, hr, hn]
  rfl

section
variable (hn : s.nmiPending = false)
include hn

theorem step_irq (hi : s.irqPending = true) (hmask : s.flag .i = false) : step s = .next s.irqEntry.tick := by
  rw [step_eq_transition h, transition, hr, hn, hi, hmask]
  rfl

theorem step_wait (hi : s.irqPending = false) (hw : s.waiting = true) : step s = .next s := by
  rw [step_eq_transition h, transition, hr, hn, hi, hw]
  rfl

/-- A masked IRQ request does not keep a core from dispatching, and ends its wait (R391). -/
theorem dispatches_of_masked (hi : s.irqPending = true) (hmask : s.flag .i = true) : dispatches s :=
  ⟨h, hr, hn, fun _ => hmask, fun _ => hi⟩

end
end
end

/-- A step that dispatches has ended the wait of WAI (R410, R391). -/
theorem step_of_dispatches {s : State} (h : dispatches s) : step s = dispatch { s with waiting := false } := by
  obtain ⟨htransition, hr, hn, hmask, hwait⟩ := h
  have hirq : ¬(s.irqPending && !s.flag .i) = true := by simpa using hmask
  have hawake : ¬(s.waiting && !s.irqPending) = true := by simpa using hwait
  rw [step_eq_transition htransition, transition, if_neg (by simp [hr]), if_neg (by simp [hn]), if_neg hirq,
    if_neg hawake]

/-! ### The interrupt entries -/

/-- Settles O15: the step is the NMI entry, which `nmiEntry_tick_eq` gives, with the P of `entryStatus_eq_ite`. -/
theorem nmiEntryEffect : Obligations.NmiEntryEffect := by
  unfold Obligations.NmiEntryEffect
  intro s h hr hn
  rw [step_nmi h hr hn, nmiEntry_tick_eq, entryStatus_eq_ite]
  rfl

/-- Settles O16: unmasked, the step is the IRQ entry, which `irqEntry_tick_eq` gives; masked, the request outlives
it. -/
theorem irqEntryEffect : Obligations.IrqEntryEffect := by
  unfold Obligations.IrqEntryEffect
  intro s h hr hn hi
  refine ⟨fun hmask => ?_, irqPending_of_masked h hi⟩
  rw [step_irq h hr hn hi hmask, irqEntry_tick_eq, entryStatus_eq_ite]
  rfl

/-! ### The wait of WAI -/

/-- Settles O14: the transitions in their order; with a masked IRQ the state dispatches, and so does the one that does
not wait, from which the dispatch starts. -/
theorem waitAndWake : Obligations.WaitAndWake := by
  unfold Obligations.WaitAndWake
  intro s h hw hr
  refine ⟨fun hn hi => step_wait h hr hn hi hw, fun hn hi hmask => ⟨?_, irqPending_of_masked h hi hmask⟩,
    fun hn => ⟨_, step_nmi h hr hn, rfl, rfl⟩, fun hn hi hmask => ⟨_, step_irq h hr hn hi hmask, rfl, rfl⟩⟩
  have hawake : dispatches { s with waiting := false } := dispatches_of_masked (by exact h) hr hn hi hmask
  rw [step_of_dispatches (dispatches_of_masked h hr hn hi hmask), step_of_dispatches hawake]

/-! ### The halted core -/

/-- A state that a step leaves as it is stays for any number of steps. -/
theorem run_of_step_self {s : State} (h : step s = .next s) (n : Nat) : core.run n s = .next s := by
  induction n with
  | zero => rfl
  | succ n ih => rw [run_succ n h, ih]

section
variable {s : State} (hs : s.started = true) (hh : s.halted = true)
include hs hh

/-- A halted core does nothing without a reset request (R395, R420). -/
theorem run_halted (hr : s.resetPending = false) (n : Nat) : core.run n s = .next s :=
  run_of_step_self (by rw [step_halted hs hh, hr]; rfl) n

/-- A halted core serves a reset request at once (R420). -/
theorem step_halted_reset (hr : s.resetPending = true) : step s = .next s.resetWithBudget.tick := by
  rw [step_halted hs hh, if_pos hr]

end

/-- Settles O13: `run_halted` for the state and for the two with a request; either reset clears `Halted`. -/
theorem haltedUntilReset : Obligations.HaltedUntilReset := by
  unfold Obligations.HaltedUntilReset
  intro s n hs hh hr
  exact ⟨run_halted hs hh hr n, run_halted (s := s.setNmi) hs hh hr n, run_halted (s := s.setIrq) hs hh hr n,
    ⟨hh, _, step_halted_reset hs hh rfl, rfl⟩, rfl⟩

/-! ### The dispatch -/

/-- The fetch finds the instruction that the bytes at PC decode to, and reads its bytes alone (R413, R122). -/
theorem fetchInstr_of_decode {s : State} {i : Instr} {rest : List Byte}
    (h : decode s.variant s.bytesAtPc = .ok (i, rest)) : fetchInstr s = .instr i (State.fetchedBytes i.length s) := by
  obtain ⟨b, f, operands, hf, hbuilds, hbytes⟩ := decode_eq_ok_iff.mp h
  have hlength : i.length = operands.length + 1 := congrArg List.length (encode_of_builds hf hbuilds)
  rw [hlength, fetchInstr_eq]
  cases hbuilds <;> simp only [State.bytesAtPc, List.cons_append, List.nil_append, List.cons.injEq] at hbytes
  case f1 => obtain ⟨rfl, -⟩ := hbytes; rw [hf]; rfl
  case f2 => obtain ⟨rfl, rfl, -⟩ := hbytes; rw [hf]; rfl
  case f3 => obtain ⟨rfl, hlow, hhigh, -⟩ := hbytes; rw [hf, fetchedAs, hlow, hhigh, mkWord_hi_lo]; rfl
  case f3zr => obtain ⟨rfl, rfl, rfl, -⟩ := hbytes; rw [hf]; rfl

/-- What a dispatch does with an instruction that completes: its base cycles are added and one is taken (R413, R410). -/
theorem dispatch_of_instr {s t u : State} {i : Instr} (hf : fetchInstr s = .instr i t) (hx : exec i t = .next u) :
    dispatch s = .next { u with cycles := u.cycles + baseCycles s.costs s.variant i.opcode - 1 } := by
  rw [dispatch, hf]
  dsimp only
  rw [hx]
  rfl

/-- The fetch of `n` bytes makes their reads, in ascending addresses, and moves PC past them (R413). -/
theorem fetchedBytes_eq_reads (n : Nat) (s : State) :
    State.fetchedBytes n s = { s with
      pc := s.pc + BitVec.ofNat 16 n
      bus := s.bus ++ readsOf ((List.range n).map fun k => s.pc + BitVec.ofNat 16 k) s } := by
  rw [fetchedBytes_eq, fetchedBytes_pc, fetchedBytes_bus]

/-- Settles O11: the step is a dispatch, whose fetch finds the instruction decoded; the instruction completes. -/
theorem stepRunsDecodedInstruction : Obligations.StepRunsDecodedInstruction := by
  unfold Obligations.StepRunsDecodedInstruction
  intro s i rest h hdecode
  have hfetch := fetchInstr_of_decode (s := { s with waiting := false }) hdecode
  have hreads : ∀ l, readsOf l { s with waiting := false } = readsOf l s := fun l =>
    readsOf_congr rfl rfl rfl fun _ _ => rfl
  rw [fetchedBytes_eq_reads, hreads] at hfetch
  obtain ⟨u, hexec, -⟩ := exec_completes i _
  rw [step_of_dispatches h, dispatch_of_instr hfetch hexec, hexec]

/-- Settles O12: the step is a dispatch, and NMOS has no row for the byte its fetch reads. -/
theorem undefinedByteHaltsNmos : Obligations.UndefinedByteHaltsNmos := by
  unfold Obligations.UndefinedByteHaltsNmos
  intro s h hv hw hbyte
  have hawake : { s with waiting := false } = s := by rw [← hw]
  have hrow : opForm s.variant (s.peek s.pc) = none := by
    rw [hv, ← Option.isNone_iff_eq_none, opForm_nmos_isNone]
    exact List.contains_iff_mem.mpr hbyte
  rw [step_of_dispatches h, hawake, dispatch, fetchInstr_eq, hrow]
  rfl

end Sys2Proof.Proofs
end

section
/-! PROOFS. The resets and what else the host does (R461, R463, R465, R470): the direct reset and its budget, the reset
through the latch, and the invariant under every host action. -/

namespace Sys2Proof.Proofs

open Sys2Proof.Machine Sys2Proof.Laws

/-! ### The resets -/

/-- The cycles of a reset (R461). -/
theorem resetCycles_eq_ite (v : Variant) : resetCycles v = if v = .nmos then 6 else 7 := by cases v <;> rfl

/-- Settles O7: the direct reset leaves nothing halted, so its budget is counted down (`owedCyclesCountDown`). -/
theorem directResetEffect : Obligations.DirectResetEffect := by
  unfold Obligations.DirectResetEffect
  intro s
  rw [← resetCycles_eq_ite]
  have hcount := owedCyclesCountDown s.hostReset (resetCycles s.variant) rfl rfl (Nat.le_refl _)
  rw [show s.hostReset.cycles = resetCycles s.variant from rfl, Nat.sub_self] at hcount
  exact ⟨rfl, hcount⟩

/-- The reset through the latch takes one of its cycles in the step that performs it (R410, R463). -/
theorem setReset_resetWithBudget_tick (s : State) :
    s.setReset.resetWithBudget.tick =
      { s.resetSequence with cycles := if s.variant = .nmos then 5 else 6 } := by
  have hbudget : resetCycles s.variant - 1 = if s.variant = .nmos then 5 else 6 := by cases s.variant <;> rfl
  rw [resetWithBudget_tick_eq, resetSequence_eq, ← hbudget]
  rfl

/-- Settles O8: the budget is counted down to the transition that serves the reset, or the halted core serves it at
once. -/
theorem resetThroughLatch : Obligations.ResetThroughLatch := by
  unfold Obligations.ResetThroughLatch
  refine fun s hs => ⟨fun hh => ?_, fun hh => ?_⟩
  · have hcount := owedCyclesCountDown s.setReset s.cycles hs hh (Nat.le_refl _)
    rw [show s.setReset.cycles - s.cycles = 0 from Nat.sub_self s.cycles] at hcount
    have hserved : step (State.setReset { s with cycles := 0 }) = _ := step_reset ⟨hs, hh, rfl⟩ rfl
    rw [setReset_resetWithBudget_tick] at hserved
    exact (run_add s.cycles 1 hcount).trans ((run_one _).trans hserved)
  · rw [step_halted_reset (s := s.setReset) hs hh rfl, setReset_resetWithBudget_tick]

/-! ### The host keeps the invariant -/

/-- A write to P by the host sets U (R470). -/
theorem getFlag_u_or (v : Byte) : getFlag .u (v ||| 0x20#8) = true := by simp [getFlag, flagBit]

/-- The direct reset meets the invariant over a canonical memory: it sets U and ends the wait (R461, R462). -/
theorem inv_hostReset {s : State} (h : Memory.wf s.mem = true) : Inv s.hostReset := by
  rw [State.hostReset, resetSequence_eq]
  exact ⟨h, fun _ => by simp [State.flag, getFlag_resetStatus], fun _ => rfl⟩

/-- A constructed core meets the invariant over a canonical memory: no reset has run, and NMOS does not wait (R460,
R50). -/
theorem inv_construct (v : Variant) {u : State} (h : Memory.wf u.mem = true) : Inv (State.construct v u) where
  memory := h
  unused := nofun
  noWaitOnNmos hv := by
    show (u.waiting && decide (v = .wdc65c02)) = false
    rw [show v = .nmos from hv]
    exact Bool.and_false _

/-- Every host action keeps the invariant: but for the reset, a write to P and a change of memory, it touches no field
the invariant speaks of. -/
theorem host_keepsInv (act : HostAction) {s : State} (h : Inv s) : Inv (State.host act s) := by
  cases act with
  | reset => exact inv_hostReset h.memory
  | mutateP v => exact ⟨h.memory, fun _ => getFlag_u_or v, h.noWaitOnNmos⟩
  | poke addr v => exact ⟨wf_write s.mem addr v h.memory, h.unused, h.noWaitOnNmos⟩
  | _ => exact inv_congr h rfl rfl rfl rfl id

/-- Every host action keeps the three parameters (R6, R46). -/
theorem host_keeps_parameters (act : HostAction) (s : State) :
    (State.host act s).variant = s.variant ∧ (State.host act s).map = s.map ∧
      (State.host act s).costs = s.costs := by
  cases act <;> exact ⟨rfl, rfl, rfl⟩

/-- Settles O21: `inv_construct` for the construction, `host_keepsInv` and `host_keeps_parameters` for the actions. -/
theorem hostKeepsInvariant : Obligations.HostKeepsInvariant := by
  unfold Obligations.HostKeepsInvariant
  exact ⟨fun v u => inv_construct v, fun act s => host_keepsInv act, host_keeps_parameters⟩

end Sys2Proof.Proofs
end

section
/-! PROOFS. RTI after an NMI, IRQ or BRK entry (R323, R418, R419): on a RAM stack it takes back the three bytes the
entry pushed. -/

namespace Sys2Proof.Proofs

open Sys2Proof.Machine Sys2Proof.Laws

/-! ### The three bytes of an entry on the stack -/

section

variable {s : State} (w : Word) (status : Byte)

/-- The stacked P, the last of the three writes, is at the lowest stack address if that is RAM (R414). -/
theorem read_pushedFrameMem_status (hwf : Memory.wf s.mem = true) (hram : s.kindAt (stackAddr (s.sp - 2#8)) = .ram) :
    Memory.read (pushedFrameMem w status s) (stackAddr (s.sp - 2#8)).toNat = status := by
  rw [pushedFrameMem, busWrite_ram _ _ hram]
  exact read_write_same _ 0 _ _ (wf_pushedWordMem hwf w)

/-- The write of P leaves the stacked PC alone (R414). -/
theorem read_pushedFrameMem_ne {a : Byte} (h : a ≠ s.sp - 2#8) :
    Memory.read (pushedFrameMem w status s) (stackAddr a).toNat = Memory.read (pushedWordMem w s) (stackAddr a).toNat :=
  read_busWrite_ne _ _ _ fun heq => h (stackAddr_inj.1 heq)

/-- RTI finds the PC, the P and the stack pointer of an entry on a RAM stack (R419), across the stack's wrap too, in
every state that has the entry's map, memory and stack pointer. -/
theorem returnFromException_of_pushedFrame {t : State} (hwf : Memory.wf s.mem = true)
    (hhigh : s.kindAt (stackAddr s.sp) = .ram) (hlow : s.kindAt (stackAddr (s.sp - 1#8)) = .ram)
    (hstatus : s.kindAt (stackAddr (s.sp - 2#8)) = .ram) (hmap : t.map = s.map)
    (hmem : t.mem = pushedFrameMem w status s) (hsp : t.sp = s.sp - 3#8) :
    t.returnFromException.pc = w ∧ t.returnFromException.sp = s.sp ∧
      t.returnFromException.p = pulledStatus status := by
  have hsp1 : t.sp + 1#8 = s.sp - 2#8 := by rw [hsp]; bv_omega
  have hsp2 : t.sp + 2#8 = s.sp - 1#8 := by rw [hsp]; bv_omega
  have hsp3 : t.sp + 3#8 = s.sp := by rw [hsp, BitVec.sub_add_cancel]
  have hnotDevice {a : Byte} (ha : s.kindAt (stackAddr a) = .ram) : t.kindAt (stackAddr a) ≠ .device := by
    rw [kindAt_congr hmap, ha]; nofun
  have hp : t.peek (stackAddr (s.sp - 2#8)) = status := by
    rw [peek_memory (hnotDevice hstatus), hmem, read_pushedFrameMem_status w status hwf hstatus]
  have hpc : (t.noteRead (stackAddr (s.sp - 2#8))).peekWord (stackAddr (s.sp - 1#8)) (stackAddr s.sp) = w := by
    rw [peekWord_memory (s := t.noteRead _) (hnotDevice hlow) (hnotDevice hhigh), noteRead_mem, hmem,
      read_pushedFrameMem_ne w status (by bv_omega), read_pushedFrameMem_ne w status (by bv_omega),
      read_pushedWordMem_low w hwf hlow, read_pushedWordMem_high w hwf hhigh, mkWord_hi_lo]
  rw [returnFromException_eq, hsp1, hsp2, hsp3, hp, hpc]
  exact ⟨rfl, rfl, rfl⟩

end

/-! ### The P that comes back -/

/-- RTI after an NMI or IRQ entry takes back the live P with U = 1 and B = 0 (R37, R419). -/
theorem pulledStatus_stackedByInterrupt (p : Byte) : pulledStatus (stackedByInterrupt p) = pulledStatus p :=
  eq_of_getFlag_eq fun f => by cases f <;> simp

/-- So does RTI after BRK, whose stacked copy has B = 1 (R37, R418). -/
theorem pulledStatus_stackedByBrk (p : Byte) : pulledStatus (stackedByBrk p) = pulledStatus p :=
  eq_of_getFlag_eq fun f => by cases f <;> simp

/-! ### RTI undoes an entry -/

/-- RTI resumes at the word pushed, with P pulled and the other registers as they were, after any entry that has pushed
its frame on a RAM stack and touched no register but PC, SP and P (R418, R419). -/
theorem exec_rti_of_entry {s t : State} {w handler : Word} {status p : Byte} {bus : List Access} {waiting : Bool}
    (hwf : Memory.wf s.mem = true) (hhigh : s.kindAt (stackAddr s.sp) = .ram)
    (hlow : s.kindAt (stackAddr (s.sp - 1#8)) = .ram) (hstatus : s.kindAt (stackAddr (s.sp - 2#8)) = .ram)
    (hpulled : pulledStatus status = pulledStatus s.p) (ht : t = { s with
      pc := handler, sp := s.sp - 3#8, p := p, mem := pushedFrameMem w status s, bus := bus, waiting := waiting }) :
    ∃ u, exec .rti t = .next u ∧ u.pc = w ∧ u.sp = s.sp ∧ u.p = pulledStatus s.p ∧
      u.a = s.a ∧ u.x = s.x ∧ u.y = s.y := by
  obtain ⟨hpc, hsp, hp⟩ := returnFromException_of_pushedFrame (t := t) w status hwf hhigh hlow hstatus
    (by rw [ht]) (by rw [ht]) (by rw [ht])
  have hk := returnFromException_keeps t
  have ha := hk.a.resolve_left (by decide)
  have hx := hk.x.resolve_left (by decide)
  have hy := hk.y.resolve_left (by decide)
  exact ⟨_, exec_rti t, hpc, hsp, hp.trans hpulled, by rw [ha, ht], by rw [hx, ht], by rw [hy, ht]⟩

/-- Settles O54: `exec_rti_of_entry` for what `interruptEntry_eq` and `brk_eq` say of the entries. -/
theorem rtiUndoesEntry : Obligations.RtiUndoesEntry := by
  unfold Obligations.RtiUndoesEntry
  intro s hwf hhigh hlow hstatus
  refine ⟨fun vector hvector => ?_, brk s, ?_⟩
  · have hpage : hi vector ≠ 0x01#8 ∧ hi (vector + 1#16) ≠ 0x01#8 := by
      rcases List.mem_pair.1 hvector with rfl | rfl <;> decide
    exact exec_rti_of_entry hwf hhigh hlow hstatus (pulledStatus_stackedByInterrupt s.p)
      (interruptEntry_eq s vector hpage.1 hpage.2)
  · obtain ⟨u, hresumes⟩ := exec_rti_of_entry hwf hhigh hlow hstatus (pulledStatus_stackedByBrk s.p) (brk_eq s)
    exact ⟨u, exec_brk s, hresumes⟩

end Sys2Proof.Proofs
end
